-- ==== Sys2Proof/Word.lean ====
section
/-! DEFINITION. The words of the spec: bytes, line levels, button names, sample vectors, reports and trace events
(00_scope.md R14, R18; 10_state.md R38; 30_encoding.md R71, R74). -/

namespace Sys2Proof

/-- Eight bits; bit 0 is the least significant (R14). -/
abbrev Byte := BitVec 8

/-- The level of a line (R14): Low is 0, High is 1. -/
inductive Level where
  | low
  | high
  deriving DecidableEq, Repr, Inhabited

/-- The eight buttons that own a bit of BTN (00_scope.md R12). -/
inductive Button where
  | cross
  | square
  | select
  | start
  | circle
  | triangle
  | l1
  | r1
  deriving DecidableEq, Repr

/-- The twelve samples of one poll, index = position (30_encoding.md R71); true means pressed, which is line Low. -/
abbrev SampleVector := Vector Bool 12

/-- A JoystickReport: the axes X and Y, 8 bits signed, and the 16-bit button bitmask (00_scope.md R9, R13). -/
structure Report where
  x : BitVec 8
  y : BitVec 8
  btn : BitVec 16
  deriving DecidableEq, Repr

/-- The events of the ghost trace (10_state.md R38). -/
inductive Event where
  /-- CONFIGURE ran. -/
  | cfg
  /-- CLOCK was driven to a level. -/
  | clk (v : Level)
  /-- LATCH was driven to a level. -/
  | lat (v : Level)
  /-- A wait of at least `n` time-units. -/
  | wt (n : Nat)
  /-- The data line was read; true for Low. -/
  | rd (b : Bool)
  /-- The report registers were cleared. -/
  | rst
  /-- A poll ended and RB was written: the spec's `End`. -/
  | endPoll
  deriving DecidableEq, Repr

end Sys2Proof
end

