-- ==== Sys2Proof/Config.lean ====
section
/-! DEFINITION. What an implementation fixes (00_scope.md R8 to R12) and the free values. The parameters that the source
states stand at the source's value (92_eei_decisions.md D19, log 21); the OPEN ones are constants with no body, so
that no proof can see a value of theirs. -/

namespace Sys2Proof

/-- Sampled clock pulses per poll (R8). -/
def Config.nSamples : Nat := 12

/-- Unsampled clock pulses after the last sample (R8). -/
def Config.nPad : Nat := 3

/-- Time-units waited inside one clock pulse (R8). -/
def Config.tPulse : Nat := 1

/-- Time-units waited after the padding pulses (R8). -/
def Config.tSettle : Nat := 6

/-- The magnitude of a deflected axis (R9). -/
def Config.axisMag : Nat := 127

/-- The length of the poll microprogram in words (30_encoding.md R85). -/
def Config.pollLength : Nat := 7 + 4 * Config.nSamples + 3 * Config.nPad

/-- The default bit of each button: its sample position (30_encoding.md R75). -/
def Config.defaultBit : Button → Fin 16
  | .cross => 0
  | .square => 1
  | .select => 2
  | .start => 3
  | .circle => 8
  | .triangle => 9
  | .l1 => 10
  | .r1 => 11

/-- FREE VALUE (log 11). BUTTON_BIT is OPEN: any injective map from the eight buttons to the sixteen bits (R12). Every
such map is the default map followed by a permutation of the bits, and this is that permutation. -/
opaque Config.bitOrder : Equiv.Perm (Fin 16)

/-- BUTTON_BIT: the bit of BTN that a button owns (00_scope.md R12, 92_eei_decisions.md D4). -/
def Config.buttonBit (b : Button) : Fin 16 := Config.bitOrder (Config.defaultBit b)

/-- FREE VALUE (log 2). The level of data line `k` where State settles no move of the environment for the read: the
environment's answer, which sees the trace so far (20_memory.md R56). The last argument is State's counter `draws`. -/
opaque Config.lineLevel (k : Nat) (seen : List Event) (draw : Nat) : Level

end Sys2Proof
end

