-- ==== Sys2Proof/Syntax.lean ====
section
/-! DEFINITION. The instructions: one constructor per row of spec/opcode_table.json (00_scope.md R7, 30_encoding.md
R79, R83, R86). -/

namespace Sys2Proof

/-- The two settings in which SETCLK, SETLAT, WAIT and TOGGLE exist with one meaning (40_gpio_line_driver.md, its
introduction and R105): a micro-operation of the sequencer, which advances `upc`, or a direct call, which does not. -/
inductive Setting where
  | micro
  | direct
  deriving DecidableEq, Repr

/-- PINMAP, the pin mapping (00_scope.md R11): which pins serve CLOCK, LATCH and the data lines, and the index in
`dataPins` of the one data line that is read. -/
structure PinMap where
  clockPin : Nat
  latchPin : Nat
  dataPins : List Nat
  dataRead : Nat
  deriving DecidableEq, Repr

/-- N_DATA: how many data lines are wired (R11). -/
def PinMap.nData (m : PinMap) : Nat := m.dataPins.length

/-- The device lifecycle events (43_hid_transport_boundary.md R183). -/
inductive LifecycleEvent where
  | configurationChanged
  | controlRequest
  | periodicTick
  deriving DecidableEq, Repr

/-- The micro-operations, macros and interface operations of the block. -/
inductive Instr where
  /-- END: finish the poll (41 R124). -/
  | endPoll
  /-- SETCLK v: drive CLOCK (40 R101). -/
  | setclk (c : Setting) (v : Level)
  /-- SETLAT v: drive LATCH (40 R102). -/
  | setlat (c : Setting) (v : Level)
  /-- WAIT n: let `n` time-units pass (40 R108). -/
  | wait (c : Setting) (n : Nat)
  /-- SAMPLE 0: cross (41 R123, 42 R151). -/
  | sample0
  /-- SAMPLE 1: square (41 R123, 42 R152). -/
  | sample1
  /-- SAMPLE 2: select (41 R123, 42 R153). -/
  | sample2
  /-- SAMPLE 3: start (41 R123, 42 R154). -/
  | sample3
  /-- SAMPLE 4: up (41 R123, 42 R155). -/
  | sample4
  /-- SAMPLE 5: down (41 R123, 42 R156). -/
  | sample5
  /-- SAMPLE 6: left (41 R123, 42 R157). -/
  | sample6
  /-- SAMPLE 7: right (41 R123, 42 R158). -/
  | sample7
  /-- SAMPLE 8: circle (41 R123, 42 R159). -/
  | sample8
  /-- SAMPLE 9: triangle (41 R123, 42 R160). -/
  | sample9
  /-- SAMPLE 10: l1 (41 R123, 42 R161). -/
  | sample10
  /-- SAMPLE 11: r1 (41 R123, 42 R162). -/
  | sample11
  /-- RSTREP: set every report field to neutral (42 R150). -/
  | rstrep
  /-- CONFIGURE m: initialise the lines (40 R100). -/
  | configure (m : PinMap)
  /-- READDATA: sample the data line once (40 R103). -/
  | readdata
  /-- TOGGLE: one clock pulse (41 R120). -/
  | toggle (c : Setting)
  /-- POLL: one whole poll cycle (41 R121). -/
  | poll
  /-- BUILD sv: the mapping as a pure function (42 R163). -/
  | build (sv : SampleVector)
  /-- SERIALIZE: write the wire format (42 R167). -/
  | serialize
  /-- ONCREATEREPORT: the host asks for a report (43 R180). -/
  | onCreateReport
  /-- ONHOSTREPORT b: the host sends data (43 R182). -/
  | onHostReport (b : List Byte)
  /-- LIFECYCLE e: a device lifecycle event (43 R183). -/
  | lifecycle (e : LifecycleEvent)
  deriving DecidableEq, Repr

end Sys2Proof
end

