-- ==== Sys2Proof/WellFormed.lean ====
section
/-! DEFINITION. Which terms are instructions of the spec: a pin mapping has a data line and reads one it has
(00_scope.md R11); a WAIT fetched as a micro-operation holds its count in four bits (30_encoding.md R80). -/

namespace Sys2Proof

/-- R11: `data_pins` is not empty, and `data_read` is an index into it. -/
def PinMap.wf (m : PinMap) : Bool := decide (m.dataRead < m.nData)

/-- The operands every instruction may have (R11, R80). -/
def Instr.wf : Instr → Bool
  | .wait .micro n => decide (n < 16)
  | .wait .direct _ => true
  | .configure m => m.wf
  | .endPoll => true
  | .setclk _ _ => true
  | .setlat _ _ => true
  | .sample0 => true
  | .sample1 => true
  | .sample2 => true
  | .sample3 => true
  | .sample4 => true
  | .sample5 => true
  | .sample6 => true
  | .sample7 => true
  | .sample8 => true
  | .sample9 => true
  | .sample10 => true
  | .sample11 => true
  | .rstrep => true
  | .readdata => true
  | .toggle _ => true
  | .poll => true
  | .build _ => true
  | .serialize => true
  | .onCreateReport => true
  | .onHostReport _ => true
  | .lifecycle _ => true

/-- The micro-operations: the instructions that have a word of their own (30_encoding.md R79). The other rows of the
opcode table, and a direct call of SETCLK, SETLAT or WAIT, have none (R86, 40_gpio_line_driver.md R105). -/
def Instr.isMicroOp : Instr → Bool
  | .setclk .micro _ => true
  | .setclk .direct _ => false
  | .setlat .micro _ => true
  | .setlat .direct _ => false
  | .wait .micro _ => true
  | .wait .direct _ => false
  | .endPoll => true
  | .sample0 => true
  | .sample1 => true
  | .sample2 => true
  | .sample3 => true
  | .sample4 => true
  | .sample5 => true
  | .sample6 => true
  | .sample7 => true
  | .sample8 => true
  | .sample9 => true
  | .sample10 => true
  | .sample11 => true
  | .rstrep => true
  | .configure _ => false
  | .readdata => false
  | .toggle _ => false
  | .poll => false
  | .build _ => false
  | .serialize => false
  | .onCreateReport => false
  | .onHostReport _ => false
  | .lifecycle _ => false

end Sys2Proof
end

