-- ==== Sys2Proof/Decode.lean ====
section
/-! DEFINITION. Micro-operation words and instructions, both ways (30_encoding.md R78 to R82), and the expansions of
the two macros (R83). -/

namespace Sys2Proof

/-- What the decoder says of a word (R81): an instruction, a reserved word by name, or that there is no word. -/
inductive Decoded where
  | instr (i : Instr)
  | reserved (w : Byte)
  | noWord
  deriving DecidableEq, Repr

/-- `op = w[7:4]` (R78). -/
def opField (w : Byte) : BitVec 4 := w.extractLsb' 4 4

/-- `arg = w[3:0]` (R78). -/
def argField (w : Byte) : BitVec 4 := w.extractLsb' 0 4

/-- A level operand: 0 is Low, 1 is High (R80). -/
def levelOfBit : Bool → Level
  | false => .low
  | true => .high

/-- The bit that encodes a level (R80). -/
def bitOfLevel : Level → Bool
  | .low => false
  | .high => true

/-- The instruction of SETCLK's or SETLAT's word: the level is `arg[0]`, and `arg[3:1]` must be 0 (R79). -/
def decodeLevel (w : Byte) (mk : Level → Instr) : Decoded :=
  if (argField w).extractLsb' 1 3 = 0#3 then .instr (mk (levelOfBit ((argField w).getLsbD 0))) else .reserved w

/-- The instruction of a word whose `arg` must be 0 (R79: END, RSTREP). -/
def decodeBare (w : Byte) (i : Instr) : Decoded :=
  if argField w = 0#4 then .instr i else .reserved w

/-- SAMPLE p: `arg` is the position, legal from 0 to 11 (R80). -/
def decodeSample (w : Byte) : Decoded :=
  match (argField w).toNat with
  | 0 => .instr .sample0
  | 1 => .instr .sample1
  | 2 => .instr .sample2
  | 3 => .instr .sample3
  | 4 => .instr .sample4
  | 5 => .instr .sample5
  | 6 => .instr .sample6
  | 7 => .instr .sample7
  | 8 => .instr .sample8
  | 9 => .instr .sample9
  | 10 => .instr .sample10
  | 11 => .instr .sample11
  | _ => .reserved w

/-- The opcode map (R79), total: every other word is reserved (R81). -/
def decodeWord (w : Byte) : Decoded :=
  match (opField w).toNat with
  | 0 => decodeBare w .endPoll
  | 1 => decodeLevel w (.setclk .micro)
  | 2 => decodeLevel w (.setlat .micro)
  | 3 => .instr (.wait .micro (argField w).toNat)
  | 4 => decodeSample w
  | 5 => decodeBare w .rstrep
  | _ => .reserved w

/-- Decode the first word of a stream, with the rest of the stream: one word is one micro-operation (R78, R82). -/
def decode : List Byte → Decoded × List Byte
  | [] => (.noWord, [])
  | w :: rest => (decodeWord w, rest)

/-- A word from its two fields (R78). -/
def wordOf (op arg : BitVec 4) : Byte := op ++ arg

/-- The word of an instruction that has one (R79); interface operations and macros have none (R86), nor has a WAIT
whose count does not fit its four bits (R80). -/
def encode : Instr → Option Byte
  | .endPoll => some (wordOf 0x0 0)
  | .setclk .micro v => some (wordOf 0x1 (BitVec.ofNat 4 (bitOfLevel v).toNat))
  | .setclk .direct _ => none
  | .setlat .micro v => some (wordOf 0x2 (BitVec.ofNat 4 (bitOfLevel v).toNat))
  | .setlat .direct _ => none
  | .wait .micro n => if n < 16 then some (wordOf 0x3 (BitVec.ofNat 4 n)) else none
  | .wait .direct _ => none
  | .sample0 => some (wordOf 0x4 0)
  | .sample1 => some (wordOf 0x4 1)
  | .sample2 => some (wordOf 0x4 2)
  | .sample3 => some (wordOf 0x4 3)
  | .sample4 => some (wordOf 0x4 4)
  | .sample5 => some (wordOf 0x4 5)
  | .sample6 => some (wordOf 0x4 6)
  | .sample7 => some (wordOf 0x4 7)
  | .sample8 => some (wordOf 0x4 8)
  | .sample9 => some (wordOf 0x4 9)
  | .sample10 => some (wordOf 0x4 10)
  | .sample11 => some (wordOf 0x4 11)
  | .rstrep => some (wordOf 0x5 0)
  | .configure _ => none
  | .readdata => none
  | .toggle _ => none
  | .poll => none
  | .build _ => none
  | .serialize => none
  | .onCreateReport => none
  | .onHostReport _ => none
  | .lifecycle _ => none

/-- The words TOGGLE stands for (R83, 41_shift_register_poller.md R120): SETCLK 1; WAIT T_PULSE; SETCLK 0. -/
def toggleWords : List Byte := [0x11#8, wordOf 0x3 (BitVec.ofNat 4 Config.tPulse), 0x10#8]

/-- The bytes of a number of `nbits` bits, the first word in the low bits. -/
def tableBytes (nbits w : Nat) : List Byte :=
  (List.range ((nbits + 7) / 8)).map fun k => BitVec.ofNat 8 (w / 2 ^ (8 * k))

/-- The instruction the decoder reads from the first word of an opcode-table row's bits. A row of no bits has no word
(R86). -/
def decodeTableWord (nbits w : Nat) : Option Instr :=
  match (decode (tableBytes nbits w)).1 with
  | .instr i => some i
  | .reserved _ => none
  | .noWord => none

end Sys2Proof
end

