-- ==== Sys2Proof/Machine/Microprogram.lean ====
section
/-! DEFINITION. The poll microprogram: the listing of 30_encoding.md R84, and the same words by the index arithmetic of
R85. -/

namespace Sys2Proof.Machine

/-- `ROM[0..63]` as the 64 bytes of R84, index 0 first. -/
def microprogramBytes : List Byte :=
  [0x11, 0x21, 0x50, 0x20, 0x11, 0x31, 0x10, 0x40, 0x11, 0x31, 0x10, 0x41, 0x11, 0x31, 0x10, 0x42] ++
  [0x11, 0x31, 0x10, 0x43, 0x11, 0x31, 0x10, 0x44, 0x11, 0x31, 0x10, 0x45, 0x11, 0x31, 0x10, 0x46] ++
  [0x11, 0x31, 0x10, 0x47, 0x11, 0x31, 0x10, 0x48, 0x11, 0x31, 0x10, 0x49, 0x11, 0x31, 0x10, 0x4A] ++
  [0x11, 0x31, 0x10, 0x4B, 0x11, 0x31, 0x10, 0x11, 0x31, 0x10, 0x11, 0x31, 0x10, 0x36, 0x11, 0x00]

/-- The one program the sequencer runs (R84). -/
def microprogram : Vector Byte 64 := ⟨microprogramBytes.toArray, by decide⟩

/-- R85's program from the parameters: a header of four words, four words per position, three per padding pulse, the
settle wait, the final SETCLK 1 and END. -/
def generatedMicroprogram : List Byte :=
  [0x11#8, 0x21#8, 0x50#8, 0x20#8] ++
  (List.range Config.nSamples).flatMap (fun p => toggleWords ++ [wordOf 0x4 (BitVec.ofNat 4 p)]) ++
  (List.range Config.nPad).flatMap (fun _ => toggleWords) ++
  [wordOf 0x3 (BitVec.ofNat 4 Config.tSettle), 0x11#8, 0x00#8]

end Sys2Proof.Machine
end

