-- ==== Sys2Proof/Machine/State.lean ====
section
/-! DEFINITION. The state of the block (10_state.md R20 to R39), its outcomes (00_scope.md R17, 60_exceptions.md R196)
and the state at power-on (R40). -/

namespace Sys2Proof.Machine

/-- A line's direction (10_state.md R25). -/
inductive Direction where
  | input
  | output
  deriving DecidableEq, Repr

/-- Whether a data line's pull-up is on (10_state.md R25). -/
inductive PullUp where
  | disabled
  | enabled
  deriving DecidableEq, Repr

/-- What the environment does with one data line at one moment (20_memory.md R56, R58). -/
inductive Drive where
  /-- Nothing drives the line. -/
  | float
  /-- The line is driven to a level. -/
  | drive (v : Level)
  deriving DecidableEq, Repr

/-- What a completed call gives its caller. -/
inductive Result where
  /-- READDATA's boolean (40 R103). -/
  | sample (b : Bool)
  /-- POLL's sample vector (41 R121). -/
  | samples (sv : SampleVector)
  /-- BUILD's report (42 R163). -/
  | report (r : Report)
  /-- ONCREATEREPORT's four bytes RB[0..3] and `forceSend` (43 R180). -/
  | bytes (rb0 rb1 rb2 rb3 : Byte) (forceSend : Bool)
  deriving DecidableEq, Repr

/-- The report buffer RB as (offset, byte) pairs, offsets strictly rising; a byte nothing has written is not listed. -/
abbrev Memory := List Host.Cell

/-- Why the model stops with a fault. The hardware has no exception (60_exceptions.md R190): both reasons are the
model's own, and with the microprogram of 30_encoding.md R84 no run meets one. -/
inductive Fault where
  /-- POLL, ONCREATEREPORT: no END within the microprogram's length (log 5). Safe: the model stops and claims nothing. -/
  | pollNeverEnds
  /-- ONCREATEREPORT: a byte of RB that nothing has written would be returned (log 10). Safe. -/
  | unwrittenBuffer
  deriving DecidableEq, Repr

/-- Why the model gives an operation no meaning in a state (60_exceptions.md R196). All are safe: they err toward
unprovable. -/
inductive Refusal where
  /-- An instruction that has no meaning yet. Safe. -/
  | notModelled (mnemonic : String)
  /-- R196 id 1. POLL, ONCREATEREPORT, SETCLK, SETLAT, TOGGLE, READDATA, SAMPLE p, a direct WAIT: `cfg` is false. Safe. -/
  | notConfigured
  /-- R196 id 2. CONFIGURE: `cfg` is true. Safe. -/
  | reconfigure
  /-- R196 id 3. POLL, ONCREATEREPORT, READDATA, direct SETCLK, SETLAT, WAIT, TOGGLE: `busy` is true. Safe. -/
  | busy
  /-- R196 id 4. The sequencer step: the fetched word is reserved, or no micro-operation. Safe. -/
  | illegalMicroOp
  /-- The step: the host's next call is no interface operation with operands it may have (log 3). Safe. -/
  | notACall
  /-- The step: the run was marked refused before (R195, R197; log 6). Safe. -/
  | runRefused
  deriving DecidableEq, Repr

/-- All the state the spec gives the block (10_state.md R20), and below it the model's own (log 1 to 4). -/
structure State where
  /-- CLOCK (R21). -/
  clock : Level
  /-- LATCH (R22). -/
  latch : Level
  /-- DATA[k] (R23): the levels at the environment's last move. -/
  data : List Level
  /-- PINMAP (R24). -/
  pinmap : PinMap
  /-- DIR_CLOCK (R25). -/
  dirClock : Direction
  /-- DIR_LATCH (R25). -/
  dirLatch : Direction
  /-- DIR_DATA[k] (R25). -/
  dirData : List Direction
  /-- PULLUP_DATA[k] (R25). -/
  pullupData : List PullUp
  /-- `cfg`: CONFIGURE has run (R26). -/
  cfg : Bool
  /-- `busy`: a poll is in progress (R27). -/
  busy : Bool
  /-- `upc`: the index of the next micro-operation (R28). -/
  upc : BitVec 6
  /-- SV[0..11] (R29). -/
  sv : SampleVector
  /-- X, two's complement (R30, log 12). -/
  x : BitVec 8
  /-- Y, two's complement (R31, log 12). -/
  y : BitVec 8
  /-- BTN (R32). -/
  btn : BitVec 16
  /-- RB[0..3] (R33). -/
  mem : Memory
  /-- `t`, ghost: the time-units waited (R37). -/
  t : Nat
  /-- `tr`, ghost: the events so far, oldest first (R38). -/
  tr : List Event
  /-- `refused`, ghost: the run is marked (R39). -/
  refused : Bool
  /-- The model's own: the microprogram, which no instruction writes (20_memory.md R66, log 1). -/
  rom : Vector Byte 64
  /-- The model's own: the environment's coming moves, one per read, entry `k` for DATA[k] (log 2). -/
  env : List (List Drive)
  /-- The model's own: the environment's move at every read past `env`, if it is settled (log 2). -/
  envRest : Option (List Drive)
  /-- The model's own: the counter that free values are applied to (log 2). -/
  draws : Nat
  /-- The model's own: the host's coming calls, next first (log 3). -/
  calls : List Instr
  /-- The model's own: what completed calls returned, oldest first (log 4). -/
  results : List Result
  deriving DecidableEq, Repr

/-- Power-on (10_state.md R40): `cfg`, `busy` and `refused` false, `t` 0, `tr` empty. R40 leaves the rest unspecified;
its values here are DESIGN CHOICES (log 7, 8, 9; RB holds no value, log 10). -/
def State.reset : State where
  clock := .high
  latch := .high
  data := [.high]
  pinmap := { clockPin := 0, latchPin := 0, dataPins := [0], dataRead := 0 }
  dirClock := .input
  dirLatch := .input
  dirData := [.input]
  pullupData := [.disabled]
  cfg := false
  busy := false
  upc := 0
  sv := Vector.replicate 12 false
  x := 0
  y := 0
  btn := 0
  mem := []
  t := 0
  tr := []
  refused := false
  rom := microprogram
  env := []
  envRest := none
  draws := 0
  calls := []
  results := []

end Sys2Proof.Machine
end

