-- ==== Sys2Proof/Machine/Operands.lean ====
section
/-! DEFINITION. The constants and operand forms of the data path: axis values, button bits, the position table
(30_encoding.md R74 to R76), and the packing used to write sample vectors down (R72). -/

namespace Sys2Proof.Machine

/-- The axis value +127 (00_scope.md R9). -/
def axisHigh : BitVec 8 := BitVec.ofNat 8 Config.axisMag

/-- The axis value -127, as two's complement (R9; log 12). -/
def axisLow : BitVec 8 := -axisHigh

/-- `v[i] <- 1` (30_encoding.md R76: the mask `1 << i`). -/
def setBit (v : BitVec 16) (i : Fin 16) : BitVec 16 := v ||| (1#16 <<< i.val)

/-- The sample position of a button (30_encoding.md R74). -/
def buttonPosition : Button → Fin 12
  | .cross => 0
  | .square => 1
  | .select => 2
  | .start => 3
  | .circle => 8
  | .triangle => 9
  | .l1 => 10
  | .r1 => 11

/-- The effect of a true sample on the report (30_encoding.md R74). -/
inductive Effect where
  | setsButton (b : Button)
  | setsX (v : BitVec 8)
  | setsY (v : BitVec 8)
  deriving DecidableEq, Repr

/-- The position table, transcribed whole (30_encoding.md R74). -/
def positionEffect (p : Fin 12) : Effect :=
  match p with
  | 0 => .setsButton .cross
  | 1 => .setsButton .square
  | 2 => .setsButton .select
  | 3 => .setsButton .start
  | 4 => .setsY axisLow
  | 5 => .setsY axisHigh
  | 6 => .setsX axisLow
  | 7 => .setsX axisHigh
  | 8 => .setsButton .circle
  | 9 => .setsButton .triangle
  | 10 => .setsButton .l1
  | 11 => .setsButton .r1

/-- The packing of a sample vector: bit p is entry p (30_encoding.md R72); notation only. -/
def packed (sv : SampleVector) : BitVec 12 := BitVec.ofFnLE fun p => sv[p]

end Sys2Proof.Machine
end

