-- ==== Sys2Proof/Machine/Ops.lean ====
section
/-! DEFINITION. The named operations over the state: one update per register or group written together, the report
buffer's bytes, the environment's moves and line reads, and how outcomes are chained (00_scope.md R15 to R17). The
block takes no exception and returns from none (60_exceptions.md R190, R195), so no such operation stands here. -/

namespace Sys2Proof.Machine

/-- The three outcomes of an operation (R17). -/
abbrev Out := Host.Outcome State Fault Refusal

/-- Run `f` on the next state; a fault or a refusal ends the chain. -/
def andThen (o : Out) (f : State → Out) : Out :=
  match o with
  | .next t => f t
  | .fault r => .fault r
  | .refused r => .refused r

/-! ### Registers and lines -/

/-- `emit(e)`: append an event to the trace (R16, 10_state.md R38). -/
def State.emit (s : State) (e : Event) : State := { s with tr := s.tr ++ [e] }

/-- `LineWrite(CLOCK, v)` (20_memory.md R52). -/
def State.driveClock (s : State) (v : Level) : State := { s with clock := v }

/-- `LineWrite(LATCH, v)` (20_memory.md R52). -/
def State.driveLatch (s : State) (v : Level) : State := { s with latch := v }

/-- `Wait(n)`: `t` counts the units (10_state.md R37). -/
def State.addTime (s : State) (n : Nat) : State := { s with t := s.t + n }

/-- `upc <- upc + 1` (10_state.md R28), in six bits (log 14). -/
def State.advance (s : State) : State := { s with upc := s.upc + 1 }

/-- The start of a poll: `busy <- true`, `upc <- 0` (41_shift_register_poller.md R121). -/
def State.beginPoll (s : State) : State := { s with busy := true, upc := 0 }

/-- `busy <- false` (41_shift_register_poller.md R124). -/
def State.setIdle (s : State) : State := { s with busy := false }

/-- `SV[p] <- b` (41_shift_register_poller.md R123). -/
def State.recordSample (s : State) (p : Fin 12) (b : Bool) : State := { s with sv := s.sv.set p.val b p.isLt }

/-- `X <- v`. -/
def State.setX (s : State) (v : BitVec 8) : State := { s with x := v }

/-- `Y <- v`. -/
def State.setY (s : State) (v : BitVec 8) : State := { s with y := v }

/-- `BTN[i] <- 1`. -/
def State.setBtnBit (s : State) (i : Fin 16) : State := { s with btn := setBit s.btn i }

/-- The report registers and SV to neutral (42_report_builder.md R150). -/
def State.clearReport (s : State) : State :=
  { s with x := 0, y := 0, btn := 0, sv := Vector.replicate 12 false }

/-- The report the registers X, Y, BTN hold. -/
def State.reportRegs (s : State) : Report := { x := s.x, y := s.y, btn := s.btn }

/-- Give a result to the caller (log 4). -/
def State.giveResult (s : State) (r : Result) : State := { s with results := s.results ++ [r] }

/-- The host's next call is taken (log 3). -/
def State.popCall (s : State) : State := { s with calls := s.calls.tail }

/-- `refused <- true` (60_exceptions.md R197). -/
def State.markRefused (s : State) : State := { s with refused := true }

/-- The state an outcome leaves: the next state, or the same state marked (60_exceptions.md R197, first reading). -/
def settle (s : State) (o : Out) : State :=
  match o with
  | .next t => t
  | .fault _ => s.markRefused
  | .refused _ => s.markRefused

/-! ### The report buffer -/

/-- The byte at an offset; none where nothing has been written (log 10). -/
def Memory.read : Memory → Nat → Option Byte
  | [], _ => none
  | c :: m, a => if c.1 = a then some c.2 else Memory.read m a

/-- Write a byte, keeping the offsets rising. -/
def Memory.write : Memory → Nat → Byte → Memory
  | [], a, b => [(a, b)]
  | c :: m, a, b =>
    if a < c.1 then (a, b) :: c :: m
    else if a = c.1 then (a, b) :: m
    else c :: Memory.write m a b

/-- The canonical form: offsets strictly rising and inside the buffer (20_memory.md R59). -/
def Memory.wf : Memory → Bool
  | [] => true
  | [c] => decide (c.1 < 4)
  | c :: d :: m => decide (c.1 < d.1) && Memory.wf (d :: m)

/-- `MemWrite(addr, 1, b)` (R16): the offsets of RB are 0 to 3. -/
def State.writeByte (s : State) (a : Fin 4) (b : Byte) : State := { s with mem := Memory.write s.mem a.val b }

/-- `MemWrite(2, 2, v)`: the low byte at the lower offset (20_memory.md R60). -/
def State.writeMask (s : State) (v : BitVec 16) : State :=
  (s.writeByte 2 (v.extractLsb' 0 8)).writeByte 3 (v.extractLsb' 8 8)

/-- `MemRead(addr, 1)`. -/
def State.readByte (s : State) (a : Nat) : Option Byte := Memory.read s.mem a

/-! ### The environment and line reads -/

/-- What a move of the environment does with line `k`; a line the move does not name is undriven. -/
def driveOf (ds : List Drive) (k : Nat) : Drive := (ds[k]?).getD .float

/-- The level of line `k` as a free draw of the environment (20_memory.md R56, log 2). -/
def State.freeLevel (s : State) (k : Nat) : Level := Config.lineLevel k s.tr s.draws

/-- The level of line `k` under a move: the driven level, or High by the pull-up (20_memory.md R58); with neither, the
level is free. -/
def State.levelUnder (s : State) (ds : List Drive) (k : Nat) : Level :=
  match driveOf ds k with
  | .drive v => v
  | .float => if s.pullupData[k]? = some .enabled then .high else s.freeLevel k

/-- The environment's move at the `j`-th coming read, counted from 0, where State settles it. -/
def State.moveAt (s : State) (j : Nat) : Option (List Drive) :=
  match s.env[j]? with
  | some ds => some ds
  | none => s.envRest

/-- The level the environment gives line `k` at the next read. -/
def State.comingLevel (s : State) (k : Nat) : Level :=
  match s.moveAt 0 with
  | some ds => s.levelUnder ds k
  | none => s.freeLevel k

/-- The environment moves: every data line takes the level it gives it (20_memory.md R56). -/
def State.envMove (s : State) : State :=
  { s with
    data := (List.range s.pinmap.nData).map s.comingLevel
    env := s.env.tail
    draws := s.draws + 1 }

/-- The level of DATA[k]. A line that is not wired has no level of its own, and the answer is free. -/
def State.lineAt (s : State) (k : Nat) : Level := (s.data[k]?).getD (s.freeLevel k)

/-- The sample of the next line read (00_scope.md R18): `LineRead(DATA) == Low`, of DATA[data_read] alone
(20_memory.md R51, R53). -/
def State.nextSample (s : State) : Bool := decide (s.envMove.lineAt s.pinmap.dataRead = .low)

/-- The state after a line read: the environment has moved, and `Rd(b)` stands in the trace
(40_gpio_line_driver.md R103). -/
def State.afterRead (s : State) : State := s.envMove.emit (.rd s.nextSample)

/-! ### The lines' configuration -/

/-- Everything CONFIGURE writes (40_gpio_line_driver.md R100): the mapping, directions and pull-ups, both outputs Low,
`cfg` and `busy`; the data lines are the environment's (log 18). -/
def State.configureLines (s : State) (m : PinMap) : State :=
  { s with
    pinmap := m
    dirClock := .output
    dirLatch := .output
    dirData := List.replicate m.nData .input
    pullupData := List.replicate m.nData .enabled
    data := (List.range m.nData).map s.freeLevel
    draws := s.draws + 1
    clock := .low
    latch := .low
    cfg := true
    busy := false }

/-! ### Fetching a micro-operation -/

/-- The word at `upc` (30_encoding.md R78). -/
def State.fetchWord (s : State) : Byte := s.rom[s.upc.toNat]'(by have := s.upc.isLt; omega)

/-- Fetch and decode the word at `upc` (41_shift_register_poller.md R122). -/
def State.fetch (s : State) : Decoded := decodeWord s.fetchWord

end Sys2Proof.Machine
end

