-- ==== Sys2Proof/Machine/Flags.lean ====
section
/-! DEFINITION. The block has no status flags and computes none (10_state.md R34). What stands here are the tests of
its two status bits, `cfg` and `busy`, that come before an operation (60_exceptions.md R194, R196). -/

namespace Sys2Proof.Machine

/-- Refuse with the reason a test gives, or go on. -/
def guarded (test : Option Refusal) (o : Out) : Out :=
  match test with
  | some r => .refused r
  | none => o

/-- `if not cfg then refuse NotConfigured` (R196 id 1). -/
def cfgTest (s : State) : Option Refusal := if s.cfg then none else some .notConfigured

/-- `if busy then refuse Busy` (R196 id 3). -/
def busyTest (s : State) : Option Refusal := if s.busy then some .busy else none

/-- A direct call is admitted only while the sequencer is idle (40_gpio_line_driver.md R105). -/
def settingBusyTest (c : Setting) (s : State) : Option Refusal :=
  match c with
  | .micro => none
  | .direct => busyTest s

/-- A direct WAIT is refused before CONFIGURE; a fetched one tests nothing (40_gpio_line_driver.md R108). -/
def settingCfgTest (c : Setting) (s : State) : Option Refusal :=
  match c with
  | .micro => none
  | .direct => cfgTest s

/-- `upc <- upc + 1`, only as a micro-operation (40_gpio_line_driver.md, its introduction). -/
def State.stepIndex (s : State) (c : Setting) : State :=
  match c with
  | .micro => s.advance
  | .direct => s

end Sys2Proof.Machine
end

