-- ==== Sys2Proof/Machine/LineDriver.lean ====
section
/-! DEFINITION. The GPIO Line Driver family (40_gpio_line_driver.md): CONFIGURE, SETCLK, SETLAT, READDATA, WAIT. -/

namespace Sys2Proof.Machine

/-- CONFIGURE m (R100): once only. -/
def execConfigure (m : PinMap) (s : State) : Out :=
  if s.cfg then .refused .reconfigure else .next ((s.configureLines m).emit .cfg)

/-- SETCLK v (R101, R105). -/
def execSetclk (c : Setting) (v : Level) (s : State) : Out :=
  guarded (cfgTest s) (guarded (settingBusyTest c s) (.next (((s.driveClock v).emit (.clk v)).stepIndex c)))

/-- SETLAT v (R102, R105). -/
def execSetlat (c : Setting) (v : Level) (s : State) : Out :=
  guarded (cfgTest s) (guarded (settingBusyTest c s) (.next (((s.driveLatch v).emit (.lat v)).stepIndex c)))

/-- READDATA (R103, R105): the boolean goes to the caller. -/
def execReaddata (s : State) : Out :=
  guarded (cfgTest s) (guarded (busyTest s) (.next (s.afterRead.giveResult (.sample s.nextSample))))

/-- WAIT n (R108, R105). -/
def execWait (c : Setting) (n : Nat) (s : State) : Out :=
  guarded (settingCfgTest c s) (guarded (settingBusyTest c s) (.next (((s.addTime n).emit (.wt n)).stepIndex c)))

end Sys2Proof.Machine
end

