-- ==== Sys2Proof/Machine/ReportBuilder.lean ====
section
/-! DEFINITION. The Report Builder family (42_report_builder.md): RSTREP, the twelve effects, BUILD, SERIALIZE. No
operation of it can refuse. -/

namespace Sys2Proof.Machine

/-- RSTREP (R150). -/
def execRstrep (s : State) : Out := .next ((s.clearReport.emit .rst).advance)

/-- What a true sample does to the report registers (30_encoding.md R74). -/
def State.applyEffect (s : State) (e : Effect) : State :=
  match e with
  | .setsButton b => s.setBtnBit (Config.buttonBit b)
  | .setsX v => s.setX v
  | .setsY v => s.setY v

/-- EFFECT_p (R151 to R162): nothing when the sample is false. -/
def State.effectAt (s : State) (p : Fin 12) (b : Bool) : State :=
  if b then s.applyEffect (positionEffect p) else s

/-- The neutral report (10_state.md R43). -/
def neutralReport : Report := { x := 0, y := 0, btn := 0 }

/-- `if b then BTN[bit] <- 1`, on a report. -/
def Report.withBit (r : Report) (b : Bool) (i : Fin 16) : Report := if b then { r with btn := setBit r.btn i } else r

/-- `if b then X <- v`, on a report. -/
def Report.withX (r : Report) (b : Bool) (v : BitVec 8) : Report := if b then { r with x := v } else r

/-- `if b then Y <- v`, on a report. -/
def Report.withY (r : Report) (b : Bool) (v : BitVec 8) : Report := if b then { r with y := v } else r

/-- BUILD's twelve tests in the order of R163, under an assignment of bits to buttons. -/
def buildWith (bit : Button → Fin 16) (sv : SampleVector) : Report :=
  let r := neutralReport
  let r := Report.withBit r sv[0] (bit .cross)
  let r := Report.withBit r sv[1] (bit .square)
  let r := Report.withBit r sv[2] (bit .select)
  let r := Report.withBit r sv[3] (bit .start)
  let r := Report.withY r sv[4] axisLow
  let r := Report.withY r sv[5] axisHigh
  let r := Report.withX r sv[6] axisLow
  let r := Report.withX r sv[7] axisHigh
  let r := Report.withBit r sv[8] (bit .circle)
  let r := Report.withBit r sv[9] (bit .triangle)
  let r := Report.withBit r sv[10] (bit .l1)
  Report.withBit r sv[11] (bit .r1)

/-- BUILD under the block's own BUTTON_BIT (R163). -/
def buildReport (sv : SampleVector) : Report := buildWith Config.buttonBit sv

/-- BUILD sv (R163): a pure function; the report goes to the caller and no register is written (log 16). -/
def execBuild (sv : SampleVector) (s : State) : Out := .next (s.giveResult (.report (buildReport sv)))

/-- Store X, Y, BTN into RB in the wire format (R167, 30_encoding.md R73). -/
def State.serialized (s : State) : State := ((s.writeByte 0 s.x).writeByte 1 s.y).writeMask s.btn

/-- SERIALIZE (R167). -/
def execSerialize (s : State) : Out := .next s.serialized

end Sys2Proof.Machine
end

