-- ==== Sys2Proof/Machine/Poller.lean ====
section
/-! DEFINITION. The Shift-Register Poller family (41_shift_register_poller.md): TOGGLE, SAMPLE 0 to SAMPLE 11, END, the
sequencer step, POLL. -/

namespace Sys2Proof.Machine

/-- TOGGLE (R120): SETCLK 1; WAIT T_PULSE; SETCLK 0, in the setting it is used in (log 17). -/
def execToggle (c : Setting) (s : State) : Out :=
  andThen (execSetclk c .high s) fun s1 =>
  andThen (execWait c Config.tPulse s1) fun s2 =>
  execSetclk c .low s2

/-- SAMPLE p (R123): read the line, record the sample, apply the position's effect. -/
def sampleAt (p : Fin 12) (s : State) : Out :=
  guarded (cfgTest s)
    (.next ((((s.afterRead).recordSample p s.nextSample).effectAt p s.nextSample).advance))

/-- SAMPLE 0: cross (42_report_builder.md R151). -/
def execSample0 (s : State) : Out := sampleAt 0 s

/-- SAMPLE 1: square (R152). -/
def execSample1 (s : State) : Out := sampleAt 1 s

/-- SAMPLE 2: select (R153). -/
def execSample2 (s : State) : Out := sampleAt 2 s

/-- SAMPLE 3: start (R154). -/
def execSample3 (s : State) : Out := sampleAt 3 s

/-- SAMPLE 4: up (R155). -/
def execSample4 (s : State) : Out := sampleAt 4 s

/-- SAMPLE 5: down (R156). -/
def execSample5 (s : State) : Out := sampleAt 5 s

/-- SAMPLE 6: left (R157). -/
def execSample6 (s : State) : Out := sampleAt 6 s

/-- SAMPLE 7: right (R158). -/
def execSample7 (s : State) : Out := sampleAt 7 s

/-- SAMPLE 8: circle (R159). -/
def execSample8 (s : State) : Out := sampleAt 8 s

/-- SAMPLE 9: triangle (R160). -/
def execSample9 (s : State) : Out := sampleAt 9 s

/-- SAMPLE 10: l1 (R161). -/
def execSample10 (s : State) : Out := sampleAt 10 s

/-- SAMPLE 11: r1 (R162). -/
def execSample11 (s : State) : Out := sampleAt 11 s

/-- END (R124): SERIALIZE, `busy <- false`, emit End; `upc` stays. -/
def execEndPoll (s : State) : Out := .next ((s.serialized.setIdle).emit .endPoll)

/-- Perform a fetched micro-operation (R122). An instruction that has no word is none. -/
def execMicro (i : Instr) (s : State) : Out :=
  match i with
  | .endPoll => execEndPoll s
  | .setclk c v => execSetclk c v s
  | .setlat c v => execSetlat c v s
  | .wait c n => execWait c n s
  | .sample0 => execSample0 s
  | .sample1 => execSample1 s
  | .sample2 => execSample2 s
  | .sample3 => execSample3 s
  | .sample4 => execSample4 s
  | .sample5 => execSample5 s
  | .sample6 => execSample6 s
  | .sample7 => execSample7 s
  | .sample8 => execSample8 s
  | .sample9 => execSample9 s
  | .sample10 => execSample10 s
  | .sample11 => execSample11 s
  | .rstrep => execRstrep s
  | .configure _ => .refused .illegalMicroOp
  | .readdata => .refused .illegalMicroOp
  | .toggle _ => .refused .illegalMicroOp
  | .poll => .refused .illegalMicroOp
  | .build _ => .refused .illegalMicroOp
  | .serialize => .refused .illegalMicroOp
  | .onCreateReport => .refused .illegalMicroOp
  | .onHostReport _ => .refused .illegalMicroOp
  | .lifecycle _ => .refused .illegalMicroOp

/-- The sequencer step (R122): fetch, decode, perform. -/
def sequencerStep (s : State) : Out :=
  match s.fetch with
  | .instr i => execMicro i s
  | .reserved _ => .refused .illegalMicroOp
  | .noWord => .refused .illegalMicroOp

/-- `while busy: Step()` (R121), for at most `n` steps. R129: with the microprogram of 30_encoding.md R84 the loop ends
after 64 (log 5). -/
def pollLoop : Nat → State → Out
  | 0, s => if s.busy then .fault .pollNeverEnds else .next s
  | n + 1, s => if s.busy then andThen (sequencerStep s) (pollLoop n) else .next s

/-- The start of a poll: its two tests, then `busy` and `upc` (R121). -/
def startPoll (s : State) : Out := guarded (cfgTest s) (guarded (busyTest s) (.next s.beginPoll))

/-- One poll cycle, from its tests to its END (R121). -/
def runPoll (s : State) : Out := andThen (startPoll s) (pollLoop Config.pollLength)

/-- POLL (R121): the sample vector goes to the caller. -/
def execPoll (s : State) : Out := andThen (runPoll s) fun t => .next (t.giveResult (.samples t.sv))

end Sys2Proof.Machine
end

