-- ==== Sys2Proof/Machine/HostBoundary.lean ====
section
/-! DEFINITION. The host boundary (43_hid_transport_boundary.md): ONCREATEREPORT, ONHOSTREPORT, LIFECYCLE, and which
calls the host has (R184). -/

namespace Sys2Proof.Machine

/-- `forceSend` (R181). -/
def forceSend : Bool := false

/-- `return (RB[0..3], forceSend)` (R180). -/
def returnReport (s : State) : Out :=
  match s.readByte 0, s.readByte 1, s.readByte 2, s.readByte 3 with
  | some b0, some b1, some b2, some b3 => .next (s.giveResult (.bytes b0 b1 b2 b3 forceSend))
  | _, _, _, _ => .fault .unwrittenBuffer

/-- ONCREATEREPORT (R180): one whole poll, then the buffer. -/
def execOnCreateReport (s : State) : Out := andThen (runPoll s) returnReport

/-- ONHOSTREPORT b (R182): accepted and discarded; no state is read or written. -/
def execOnHostReport (_b : List Byte) (s : State) : Out := .next s

/-- LIFECYCLE e (R183): no state is read or written. -/
def execLifecycle (_e : LifecycleEvent) (s : State) : Out := .next s

/-- The interface operations a caller outside the sequencer has (30_encoding.md R86; direct line operations:
40_gpio_line_driver.md R105). SERIALIZE is none: it is performed by END and by nothing else (10_state.md R33,
20_memory.md R59, 70_reset_and_hazards.md R213). -/
def isCall : Instr → Bool
  | .configure _ => true
  | .readdata => true
  | .setclk .direct _ => true
  | .setclk .micro _ => false
  | .setlat .direct _ => true
  | .setlat .micro _ => false
  | .wait .direct _ => true
  | .wait .micro _ => false
  | .toggle .direct => true
  | .toggle .micro => false
  | .poll => true
  | .build _ => true
  | .serialize => false
  | .onCreateReport => true
  | .onHostReport _ => true
  | .lifecycle _ => true
  | .endPoll => false
  | .sample0 => false
  | .sample1 => false
  | .sample2 => false
  | .sample3 => false
  | .sample4 => false
  | .sample5 => false
  | .sample6 => false
  | .sample7 => false
  | .sample8 => false
  | .sample9 => false
  | .sample10 => false
  | .sample11 => false
  | .rstrep => false

/-- What the step admits as the host's next call: an interface operation with operands it may have (log 3). -/
def admitted (i : Instr) : Bool := isCall i && i.wf

end Sys2Proof.Machine
end

