-- ==== Sys2Proof/Machine/Dispatch.lean ====
section
/-! DEFINITION. What each instruction does: one arm per constructor, one meaning per arm. -/

namespace Sys2Proof.Machine

def exec (i : Instr) (s : State) : Host.Outcome State Fault Refusal :=
  match i with
  | .endPoll => Sys2Proof.Machine.execEndPoll s
  | .setclk c v => Sys2Proof.Machine.execSetclk c v s
  | .setlat c v => Sys2Proof.Machine.execSetlat c v s
  | .wait c n => Sys2Proof.Machine.execWait c n s
  | .sample0 => Sys2Proof.Machine.execSample0 s
  | .sample1 => Sys2Proof.Machine.execSample1 s
  | .sample2 => Sys2Proof.Machine.execSample2 s
  | .sample3 => Sys2Proof.Machine.execSample3 s
  | .sample4 => Sys2Proof.Machine.execSample4 s
  | .sample5 => Sys2Proof.Machine.execSample5 s
  | .sample6 => Sys2Proof.Machine.execSample6 s
  | .sample7 => Sys2Proof.Machine.execSample7 s
  | .sample8 => Sys2Proof.Machine.execSample8 s
  | .sample9 => Sys2Proof.Machine.execSample9 s
  | .sample10 => Sys2Proof.Machine.execSample10 s
  | .sample11 => Sys2Proof.Machine.execSample11 s
  | .rstrep => Sys2Proof.Machine.execRstrep s
  | .configure m => Sys2Proof.Machine.execConfigure m s
  | .readdata => Sys2Proof.Machine.execReaddata s
  | .toggle c => Sys2Proof.Machine.execToggle c s
  | .poll => Sys2Proof.Machine.execPoll s
  | .build sv => Sys2Proof.Machine.execBuild sv s
  | .serialize => Sys2Proof.Machine.execSerialize s
  | .onCreateReport => Sys2Proof.Machine.execOnCreateReport s
  | .onHostReport b => Sys2Proof.Machine.execOnHostReport b s
  | .lifecycle e => Sys2Proof.Machine.execLifecycle e s

end Sys2Proof.Machine
end

