-- ==== Sys2Proof/Machine/Step.lean ====
section
/-! DEFINITION. One step of the machine: a micro-operation while a poll is in progress (41_shift_register_poller.md
R122), else the host's next call (43_hid_transport_boundary.md R185). -/

namespace Sys2Proof.Machine

/-- A marked run has no further step (60_exceptions.md R195, R197). A busy sequencer fetches and performs the word at
`upc`, and the host has no move (R184). An idle block performs the host's next call, and without one stays as it is. -/
def step (s : State) : Host.Outcome State Fault Refusal :=
  if s.refused then .refused .runRefused
  else if s.busy then
    match s.fetch with
    | .instr i => exec i s
    | .reserved _ => .refused .illegalMicroOp
    | .noWord => .refused .illegalMicroOp
  else
    match s.calls with
    | [] => .next s
    | i :: _ => if admitted i then exec i s.popCall else .refused .notACall

/-- Place a row's word where the next step fetches (log 20): in the microprogram at `upc`, with a poll in progress, which
only a configured and unmarked run has. -/
def State.withFetchWord (s : State) (nbits w : Nat) : State :=
  { s with
    rom := s.rom.set s.upc.toNat ((tableBytes nbits w).headD 0) (by have := s.upc.isLt; omega)
    busy := true
    cfg := true
    refused := false }

end Sys2Proof.Machine
end

