-- ==== Sys2Proof/Machine/Ports.lean ====
section
/-! DEFINITION. The port view of the block (10_state.md R44): its output and input pins, and what one cycle of them does,
said through the operations of files 40 to 43, which stay normative (log 26). -/

namespace Sys2Proof.Machine

/-! ### The output pins -/

/-- The output pins (R44). `report` is none where it is not valid. -/
structure PortOutputs where
  clockOut : Level
  latchOut : Level
  busy : Bool
  report : Option (BitVec 32)
  deriving DecidableEq, Repr

/-- `RB[3] ++ RB[2] ++ RB[1] ++ RB[0]`, where all four bytes are written (R44). -/
def State.reportWord (s : State) : Option (BitVec 32) :=
  match s.readByte 0, s.readByte 1, s.readByte 2, s.readByte 3 with
  | some b0, some b1, some b2, some b3 => some ((b3 ++ b2) ++ (b1 ++ b0))
  | _, _, _, _ => none

/-- `report` is valid when `busy` is false after at least one END (R44). -/
def State.reportValid (s : State) : Bool := !s.busy && s.tr.contains .endPoll

/-- What the output pins show of a state (R44). -/
def State.outputs (s : State) : PortOutputs :=
  { clockOut := s.clock
    latchOut := s.latch
    busy := s.busy
    report := if s.reportValid then s.reportWord else none }

/-! ### The input pins -/

/-- The input pins in one cycle (R44): the levels of the data lines, the two requests, and whether a time-unit passes. -/
structure PortInputs where
  dataIn : List Level
  configureGo : Bool
  pollGo : Bool
  unitTick : Bool
  deriving DecidableEq, Repr

/-- No request is raised. -/
def PortInputs.quiet (i : PortInputs) : Bool := !i.configureGo && !i.pollGo

/-- The block behind its pins: its state, and the time-units the last WAIT still has to pass. -/
structure PortBlock where
  state : State
  ticks : Nat
  deriving DecidableEq, Repr

/-- `data_in` is the level of every DATA[k]: what the environment does at a read in this cycle (R44, 20_memory.md R56). -/
def State.withDataIn (s : State) (vs : List Level) : State := { s with data := vs, env := [vs.map .drive] }

/-- What the block does in a cycle: CONFIGURE for `configure_go`, the start of POLL for `poll_go`, the two in this order
where both are raised; else the next word of a poll in progress, unless a WAIT is still passing. DESIGN CHOICE (log 26):
after `configure_go` the snapshot `State.data` is CONFIGURE's free draw (log 18), not the cycle's `data_in`, which R44 leaves
open; every read takes the `data_in` of its own cycle, so none sees the difference. -/
def portOperation (m : PinMap) (i : PortInputs) (waiting : Bool) (s : State) : Out :=
  if i.configureGo then andThen (execConfigure m s) fun t => if i.pollGo then startPoll t else .next t
  else if i.pollGo then startPoll s
  else if s.busy && !waiting then sequencerStep s
  else .next s

/-- The time-units to pass after a cycle: a `unit_tick` is consumed by the WAIT in progress, and a WAIT that was just
performed has its whole count to pass. -/
def ticksAfter (tick : Bool) (ticks added : Nat) : Nat :=
  if ticks = 0 then added else ticks - tick.toNat

/-- One cycle of the pins, for the mapping `m` that the block was built with (10_state.md R24). A marked run has none
(60_exceptions.md R197). -/
def PortBlock.cycle (m : PinMap) (i : PortInputs) (p : PortBlock) : Host.Outcome PortBlock Fault Refusal :=
  if p.state.refused then .refused .runRefused
  else
    match portOperation m i (decide (p.ticks ≠ 0)) (p.state.withDataIn i.dataIn) with
    | .next t => .next { state := t, ticks := ticksAfter i.unitTick p.ticks (t.t - p.state.t) }
    | .fault r => .fault r
    | .refused r => .refused r

/-- Cycles of the pins, one per entry of the list. -/
def PortBlock.run (m : PinMap) : List PortInputs → PortBlock → Host.Outcome PortBlock Fault Refusal
  | [], p => .next p
  | i :: later, p =>
    match PortBlock.cycle m i p with
    | .next q => PortBlock.run m later q
    | .fault r => .fault r
    | .refused r => .refused r

end Sys2Proof.Machine
end

