-- ==== Sys2Proof/Safety.lean ====
section
/-! DEFINITION. The terms claims are stated in: what a trace says (10_state.md R38, 41_shift_register_poller.md R126 to
R128), the wire format (30_encoding.md R73), the named environments (20_memory.md R57), marked runs (60_exceptions.md
R197) and the invariant of the block. -/

namespace Sys2Proof.Machine

/-! ### What a trace says -/

/-- The time-units waited in a trace (10_state.md R37, R38). -/
def waited : List Event → Nat
  | [] => 0
  | .wt n :: es => n + waited es
  | .cfg :: es => waited es
  | .clk _ :: es => waited es
  | .lat _ :: es => waited es
  | .rd _ :: es => waited es
  | .rst :: es => waited es
  | .endPoll :: es => waited es

/-- The level of CLOCK after a trace that began with CLOCK at `c` (20_memory.md R52; `Cfg` stands for Low, 40 R100). -/
def clockAfter : Level → List Event → Level
  | c, [] => c
  | _, .clk v :: es => clockAfter v es
  | _, .cfg :: es => clockAfter .low es
  | c, .wt _ :: es => clockAfter c es
  | c, .lat _ :: es => clockAfter c es
  | c, .rd _ :: es => clockAfter c es
  | c, .rst :: es => clockAfter c es
  | c, .endPoll :: es => clockAfter c es

/-- The level of LATCH after a trace that began with LATCH at `c`. -/
def latchAfter : Level → List Event → Level
  | c, [] => c
  | _, .lat v :: es => latchAfter v es
  | _, .cfg :: es => latchAfter .low es
  | c, .wt _ :: es => latchAfter c es
  | c, .clk _ :: es => latchAfter c es
  | c, .rd _ :: es => latchAfter c es
  | c, .rst :: es => latchAfter c es
  | c, .endPoll :: es => latchAfter c es

/-- An output line. -/
inductive Line where
  | clock
  | latch
  deriving DecidableEq, Repr

/-- The level an event drives a line to, if it drives it. `Cfg` drives both lines Low (40 R100). -/
def drivenBy (l : Line) : Event → Option Level
  | .clk v => if l = .clock then some v else none
  | .lat v => if l = .latch then some v else none
  | .cfg => some .low
  | .wt _ => none
  | .rd _ => none
  | .rst => none
  | .endPoll => none

/-- The edges from level `a` to level `b` of a line in a trace that began with it at `c` (41_shift_register_poller.md
R127). No edge is counted across `Cfg`, before which the line's level is unspecified (40 R100). -/
def edges (l : Line) (a b : Level) : Level → List Event → Nat
  | _, [] => 0
  | c, e :: es =>
    match drivenBy l e with
    | none => edges l a b c es
    | some v => (if c = a ∧ v = b ∧ e ≠ .cfg then 1 else 0) + edges l a b v es

/-- The rising edges of a line in a trace that began with it at `c`. -/
def risingEdges (l : Line) (c : Level) (es : List Event) : Nat := edges l .low .high c es

/-- The falling edges of a line in a trace that began with it at `c`. -/
def fallingEdges (l : Line) (c : Level) (es : List Event) : Nat := edges l .high .low c es

/-- The samples read in a trace, in order. -/
def samplesRead : List Event → List Bool
  | [] => []
  | .rd b :: es => b :: samplesRead es
  | .cfg :: es => samplesRead es
  | .wt _ :: es => samplesRead es
  | .clk _ :: es => samplesRead es
  | .lat _ :: es => samplesRead es
  | .rst :: es => samplesRead es
  | .endPoll :: es => samplesRead es

/-- The least real time a trace takes, for a time-unit of a given length: T_UNIT is the caller's argument (00_scope.md
R10; 70_reset_and_hazards.md R227; log 15). -/
def leastRealTime {R : Type} [NatCast R] [Mul R] (tUnit : R) (es : List Event) : R := (waited es : R) * tUnit

/-! ### One poll on the bus -/

/-- The events of one clock pulse (41_shift_register_poller.md R120). -/
def pulseEvents : List Event := [.clk .high, .wt Config.tPulse, .clk .low]

/-- The events of one poll whose samples are `b` (41_shift_register_poller.md R126). -/
def frameEvents (b : SampleVector) : List Event :=
  [.clk .high, .lat .high, .rst, .lat .low] ++
  b.toList.flatMap (fun v => pulseEvents ++ [.rd v]) ++
  (List.replicate Config.nPad pulseEvents).flatten ++
  [.wt Config.tSettle, .clk .high, .endPoll]

/-! ### Reports -/

/-- The four bytes of a report on the wire (30_encoding.md R73). -/
def wireFormat (r : Report) : List Byte := [r.x, r.y, r.btn.extractLsb' 0 8, r.btn.extractLsb' 8 8]

/-- RB as a list of its four bytes, where all are written. -/
def State.reportBytes (s : State) : List (Option Byte) := [s.readByte 0, s.readByte 1, s.readByte 2, s.readByte 3]

/-- The three values of an axis (00_scope.md R9). -/
def axisLegal (v : BitVec 8) : Bool := decide (v = 0) || decide (v = axisHigh) || decide (v = axisLow)

/-- The bits of BTN that no button owns are 0 (10_state.md R32, R42). -/
def maskLegal (v : BitVec 16) : Prop := ∀ i : Fin 16, (∀ b : Button, Config.buttonBit b ≠ i) → v.getLsbD i.val = false

/-! ### Named environments -/

/-- The answer the environment's move gives a read of DATA[data_read], where the move decides it (20_memory.md R56,
R58). -/
def State.answerUnder (s : State) (ds : List Drive) : Option Level :=
  match driveOf ds s.pinmap.dataRead with
  | .drive v => some v
  | .float => if s.pullupData[s.pinmap.dataRead]? = some .enabled then some .high else none

/-- The level that answers a sample: Low for pressed (00_scope.md R18). -/
def levelOfSample : Bool → Level
  | true => .low
  | false => .high

/-- The answer to the `j`-th coming line read, counted from 0, if the trace before it is `seen` and State's counter then
stands at `draw` (20_memory.md R56). -/
def State.answerAt (s : State) (j : Nat) (seen : List Event) (draw : Nat) : Level :=
  { s with env := s.env.drop j, tr := seen, draws := draw : State }.comingLevel s.pinmap.dataRead

/-- `Ideal(v)` for the next poll (20_memory.md R57): the read of position p answers Low exactly when `v[p]` is 1. -/
def IdealAnswers (s : State) (v : SampleVector) : Prop :=
  ∀ (p : Fin 12) (seen : List Event) (draw : Nat), s.answerAt p.val seen draw = levelOfSample v[p]

/-- `Disconnected` (20_memory.md R57): every read answers High, whatever the trace. -/
def Disconnected (s : State) : Prop :=
  ∀ (j : Nat) (seen : List Event) (draw : Nat), s.answerAt j seen draw = .high

/-- Nothing drives the read line at any coming read (20_memory.md R58). -/
def Undriven (s : State) : Prop := ∀ j, ∃ ds, s.moveAt j = some ds ∧ driveOf ds s.pinmap.dataRead = .float

/-! ### Runs -/

/-- `n` steps in the first reading of a refusal (60_exceptions.md R197): a step that is refused, or faults, leaves the
same state marked. -/
def markedRun : Nat → State → State
  | 0, s => s
  | n + 1, s => markedRun n (settle s (step s))

/-! ### The invariant -/

/-- The lines are configured as CONFIGURE leaves them (10_state.md R24, R25, R41). -/
structure LinesConfigured (s : State) : Prop where
  mapping : s.pinmap.wf = true
  clockOutput : s.dirClock = .output
  latchOutput : s.dirLatch = .output
  dataInputs : s.dirData = List.replicate s.pinmap.nData .input
  pullUps : s.pullupData = List.replicate s.pinmap.nData .enabled
  dataLines : s.data.length = s.pinmap.nData

/-- A result the block may have given: a report in the wire format of BUILD of some samples, never forced
(43_hid_transport_boundary.md R181, R185). -/
def resultLegal : Result → Prop
  | .bytes b0 b1 b2 b3 f => f = false ∧ ∃ sv : SampleVector, [b0, b1, b2, b3] = wireFormat (buildReport sv)
  | .sample _ => True
  | .samples _ => True
  | .report r => ∃ sv : SampleVector, r = buildReport sv

/-- What holds of the block at power-on and after every step. -/
structure Inv (s : State) : Prop where
  /-- The microprogram is the constant of 30_encoding.md R84 (20_memory.md R66). -/
  rom : s.rom = microprogram
  /-- A poll runs only on configured lines (60_exceptions.md R194). -/
  busyConfigured : s.busy = true → s.cfg = true
  /-- Configuration is written once, whole (10_state.md R25). -/
  lines : s.cfg = true → LinesConfigured s
  /-- Nothing is on the bus before CONFIGURE, and CONFIGURE is its first event and happens once (70 R211). -/
  unconfigured : s.cfg = false → s.tr = []
  configuredOnce : s.cfg = true → ∃ es, s.tr = .cfg :: es ∧ Event.cfg ∉ es
  /-- The output lines hold what was last driven (20_memory.md R52). -/
  clockHeld : s.cfg = true → s.clock = clockAfter .low s.tr
  latchHeld : s.cfg = true → s.latch = latchAfter .low s.tr
  /-- `t` counts the units waited (10_state.md R37). -/
  time : s.t = waited s.tr
  /-- The axes and the mask hold legal values (10_state.md R30 to R32). -/
  axisX : axisLegal s.x = true
  axisY : axisLegal s.y = true
  mask : maskLegal s.btn
  /-- RB is in canonical form, and is written whole or not at all, with legal values (30_encoding.md R77). -/
  memory : Memory.wf s.mem = true
  buffer : s.mem = [] ∨ ∃ r : Report, axisLegal r.x = true ∧ axisLegal r.y = true ∧ maskLegal r.btn ∧
    s.reportBytes = (wireFormat r).map some
  /-- What callers were given (43_hid_transport_boundary.md R185). -/
  returned : ∀ r ∈ s.results, resultLegal r

end Sys2Proof.Machine
end

