-- ==== Sys2Proof/Certificates/Slice0/Obligations.lean ====
section
/-! DEFINITION. The statements for the provers. Where a statement's conclusion is `exec i s = .next { s with … }`, every
field that is not named is unchanged: that equation is the instruction's frame as well as its result. -/

open Sys2Proof Sys2Proof.Machine

/-! ### Power-on and the step -/

/-- 10_state.md section 8: the values the spec gives power-on, and its constant microprogram (30_encoding.md section 8). -/
def Obligations.PowerOnValuesOfTheSpec : Prop :=
  State.reset.cfg = false ∧ State.reset.busy = false ∧ State.reset.refused = false ∧ State.reset.t = 0 ∧
  State.reset.tr = [] ∧ State.reset.rom.toList = microprogramBytes

/-- 41_shift_register_poller.md, the sequencer step: the word at `upc` is fetched, decoded and performed, as `exec` says,
with nothing around it. A reserved word is refused. -/
def Obligations.StepRunsTheFetchedMicroOp : Prop :=
  ∀ s : State, s.refused = false → s.busy = true →
    (∀ i, decodeWord (s.rom[s.upc.toNat]'(Nat.lt_of_lt_of_eq s.upc.isLt rfl)) = .instr i → step s = exec i s) ∧
    (∀ w, decodeWord (s.rom[s.upc.toNat]'(Nat.lt_of_lt_of_eq s.upc.isLt rfl)) = .reserved w →
      step s = .refused .illegalMicroOp)

/-- The model's choice (log 3), after 43_hid_transport_boundary.md section 2: an idle block takes the host's next call
off the list and performs it as `exec` says; with no call it stays as it is; a term the host cannot call is refused. -/
def Obligations.StepRunsTheNextHostCall : Prop :=
  ∀ s : State, s.refused = false → s.busy = false →
    (∀ i rest, s.calls = i :: rest → admitted i = true → step s = exec i { s with calls := rest }) ∧
    (∀ i rest, s.calls = i :: rest → admitted i = false → step s = .refused .notACall) ∧
    (s.calls = [] → step s = .next s)

/-- 60_exceptions.md section 4 and 10_state.md section 7, in the model's choice between the two readings of a refusal (log 6):
a marked state has no step; every instruction and every step that goes on leaves the mark as it was, from unconfigured
states too; and a step that goes on starts and ends unmarked. -/
def Obligations.MarkedStateHasNoStepAndNoInstructionTouchesTheMark : Prop :=
  (∀ s : State, s.refused = true → step s = .refused .runRefused) ∧
  (∀ (i : Instr) (s t : State), exec i s = .next t → t.refused = s.refused) ∧
  (∀ s t : State, step s = .next t → s.refused = false ∧ t.refused = false)

/-- 60_exceptions.md section 4 and 10_state.md section 7: the two readings of a refusal agree (log 6). A run in the first
reading, where a refused operation marks the state and changes nothing else, ends unmarked exactly when no operation of it
was refused: from an unmarked state it ends unmarked in t exactly when the same number of steps in the second reading ends
in t; and a refused step leaves the same state, marked, for all further steps. -/
def Obligations.RunEndsUnmarkedExactlyWhenNothingWasRefused : Prop :=
  (∀ (n : Nat) (s t : State), s.refused = false →
    ((markedRun n s = t ∧ t.refused = false) ↔ Host.Core.run Sys2Proof.core n s = .next t)) ∧
  (∀ (n : Nat) (s : State) (r : Refusal), step s = .refused r → markedRun (n + 1) s = { s with refused := true })

/-! ### Encodings -/

/-- 30_encoding.md section 6, words written out from the opcode map. -/
def Obligations.WordsOfTheOpcodeMapDecode : Prop :=
  decodeWord 0x00 = .instr .endPoll ∧ decodeWord 0x10 = .instr (.setclk .micro .low) ∧
  decodeWord 0x11 = .instr (.setclk .micro .high) ∧ decodeWord 0x21 = .instr (.setlat .micro .high) ∧
  decodeWord 0x36 = .instr (.wait .micro 6) ∧ decodeWord 0x40 = .instr .sample0 ∧
  decodeWord 0x4B = .instr .sample11 ∧ decodeWord 0x50 = .instr .rstrep ∧
  decodeWord 0x4C = .reserved 0x4C ∧ decodeWord 0x12 = .reserved 0x12 ∧ decodeWord 0x60 = .reserved 0x60

/-- 30_encoding.md section 6: the 222 reserved words, by their ranges; all other words are legal. -/
def Obligations.ReservedWordsAreTheListedRanges : Prop :=
  ∀ w : Byte, decodeWord w = .reserved w ↔
    (0x01#8 ≤ w ∧ w ≤ 0x0F#8) ∨ (0x12#8 ≤ w ∧ w ≤ 0x1F#8) ∨ (0x22#8 ≤ w ∧ w ≤ 0x2F#8) ∨
    (0x4C#8 ≤ w ∧ w ≤ 0x4F#8) ∨ (0x51#8 ≤ w ∧ w ≤ 0x5F#8) ∨ (0x60#8 ≤ w ∧ w ≤ 0xFF#8)

/-- Decode and encode agree, both ways, over every instruction: a well-formed micro-operation has a word, and the
instruction read from that word, in front of any other words, is itself; and every word that decodes is the word of its
instruction, so no two words have one meaning. -/
def Obligations.DecodeInvertsEncode : Prop :=
  (∀ (i : Instr) (rest : List Byte), i.wf = true → i.isMicroOp = true →
    ∃ w, encode i = some w ∧ decode (w :: rest) = (.instr i, rest)) ∧
  (∀ (w : Byte) (i : Instr), decodeWord w = .instr i → i.wf = true ∧ i.isMicroOp = true ∧ encode i = some w) ∧
  (∀ i : Instr, i.isMicroOp = false → encode i = none)

/-- 30_encoding.md section 8: the listing of the microprogram is the program the index arithmetic generates, and it
holds legal words only. -/
def Obligations.MicroprogramFollowsTheIndexArithmetic : Prop :=
  generatedMicroprogram = microprogramBytes ∧ microprogramBytes.length = Config.pollLength ∧ Config.pollLength = 64 ∧
  ∀ w ∈ microprogramBytes, ∀ v, decodeWord w ≠ .reserved v

/-! ### GPIO Line Driver -/

/-- 40_gpio_line_driver.md section 1, CONFIGURE: from an unconfigured block every line gets its direction and level; a
second CONFIGURE is refused. The levels of the data lines are the environment's (log 18). -/
def Obligations.ConfigureInitialisesTheLinesOnce : Prop :=
  ∀ (m : PinMap) (s : State),
    (s.cfg = false → ∃ t, exec (.configure m) s = .next t ∧ t.data.length = m.nData ∧
      t = { s with
        pinmap := m, dirClock := .output, dirLatch := .output
        dirData := List.replicate m.nData .input, pullupData := List.replicate m.nData .enabled
        clock := .low, latch := .low, cfg := true, busy := false, tr := s.tr ++ [.cfg]
        data := t.data, draws := t.draws }) ∧
    (s.cfg = true → exec (.configure m) s = .refused .reconfigure)

/-- R101, SETCLK v. As a micro-operation it advances the index (which never stands at 63 there), as a direct call it
does not; CLOCK and the trace are all it writes, a same-level write included. -/
def Obligations.SetclkDrivesClockAndNothingElse : Prop :=
  ∀ (s : State) (v : Level),
    (s.cfg = true → s.upc ≠ 63 → exec (.setclk .micro v) s =
      .next { s with clock := v, tr := s.tr ++ [.clk v], upc := s.upc + 1 }) ∧
    (s.cfg = true → s.busy = false → exec (.setclk .direct v) s =
      .next { s with clock := v, tr := s.tr ++ [.clk v] }) ∧
    (s.cfg = false → ∀ c, exec (.setclk c v) s = .refused .notConfigured) ∧
    (s.cfg = true → s.busy = true → exec (.setclk .direct v) s = .refused .busy) ∧
    encode (.setclk .micro v) = some (0x10#8 ||| BitVec.ofNat 8 (bitOfLevel v).toNat)

/-- R102, SETLAT v, as SETCLK for the other line. -/
def Obligations.SetlatDrivesLatchAndNothingElse : Prop :=
  ∀ (s : State) (v : Level),
    (s.cfg = true → s.upc ≠ 63 → exec (.setlat .micro v) s =
      .next { s with latch := v, tr := s.tr ++ [.lat v], upc := s.upc + 1 }) ∧
    (s.cfg = true → s.busy = false → exec (.setlat .direct v) s =
      .next { s with latch := v, tr := s.tr ++ [.lat v] }) ∧
    (s.cfg = false → ∀ c, exec (.setlat c v) s = .refused .notConfigured) ∧
    (s.cfg = true → s.busy = true → exec (.setlat .direct v) s = .refused .busy) ∧
    encode (.setlat .micro v) = some (0x20#8 ||| BitVec.ofNat 8 (bitOfLevel v).toNat)

/-- 40_gpio_line_driver.md sections 1 and 2, WAIT n: `t` grows by n and no line changes. That a direct WAIT goes on for every
n, of more than 15 too, is the model's inference (log 13): the spec gives a direct call no range. -/
def Obligations.WaitAddsItsCountToTime : Prop :=
  ∀ (s : State) (n : Nat),
    (s.upc ≠ 63 → exec (.wait .micro n) s = .next { s with t := s.t + n, tr := s.tr ++ [.wt n], upc := s.upc + 1 }) ∧
    (s.cfg = true → s.busy = false → exec (.wait .direct n) s = .next { s with t := s.t + n, tr := s.tr ++ [.wt n] }) ∧
    (s.cfg = false → exec (.wait .direct n) s = .refused .notConfigured) ∧
    (s.cfg = true → s.busy = true → exec (.wait .direct n) s = .refused .busy) ∧
    (n < 16 → encode (.wait .micro n) = some (0x30#8 ||| BitVec.ofNat 8 n))

/-- R103, READDATA: the boolean it gives back is true exactly when DATA[data_read], as the environment has just set it,
is Low; it stands in the trace; and no state of the block changes but the trace. Where the environment's next move
decides the line (driven, or undriven with the pull-up on), the boolean is that level's. -/
def Obligations.ReaddataSamplesTheReadLine : Prop :=
  ∀ s : State,
    (s.cfg = true → s.busy = false → ∃ t b, exec .readdata s = .next t ∧
      t = { s with
        tr := s.tr ++ [.rd b], results := s.results ++ [.sample b]
        data := t.data, env := s.env.tail, draws := t.draws } ∧
      (s.pinmap.wf = true → (b = true ↔ t.data[s.pinmap.dataRead]? = some .low)) ∧
      (s.pinmap.wf = true → ∀ ds v, s.moveAt 0 = some ds → s.answerUnder ds = some v → (b = true ↔ v = .low))) ∧
    (s.cfg = false → exec .readdata s = .refused .notConfigured) ∧
    (s.cfg = true → s.busy = true → exec .readdata s = .refused .busy)

/-! ### Shift-Register Poller -/

/-- 41_shift_register_poller.md section 1, TOGGLE: one pulse, High then Low, with one wait of one unit between, whatever level
CLOCK had; three words as micro-operations. That TOGGLE can be called directly, while the block is idle, and then leaves the
index alone, is the model's inference (log 17). -/
def Obligations.ToggleIsOnePulse : Prop :=
  ∀ s : State,
    (s.cfg = true → s.busy = false → exec (.toggle .direct) s =
      .next { s with clock := .low, t := s.t + 1, tr := s.tr ++ [.clk .high, .wt 1, .clk .low] }) ∧
    (s.cfg = true → s.upc.toNat + 3 ≤ 63 → exec (.toggle .micro) s =
      .next { s with clock := .low, t := s.t + 1, tr := s.tr ++ [.clk .high, .wt 1, .clk .low], upc := s.upc + 3 }) ∧
    (s.cfg = false → ∀ c, exec (.toggle c) s = .refused .notConfigured) ∧
    (s.cfg = true → s.busy = true → exec (.toggle .direct) s = .refused .busy) ∧
    toggleWords = [0x11#8, 0x31#8, 0x10#8]

/-- R151 to R154 and R159 to R162, the eight button positions. SAMPLE p reads the line once, records the sample at
position p and, when it is true, sets the button's bit of BTN; nothing else changes, no other bit of BTN among it. -/
def Obligations.ButtonSamplesSetTheirBit : Prop :=
  ∀ s : State, s.cfg = true → s.upc ≠ 63 →
    ∀ row ∈ [(Instr.sample0, (0 : Fin 12), Button.cross), (Instr.sample1, 1, Button.square),
        (Instr.sample2, 2, Button.select), (Instr.sample3, 3, Button.start), (Instr.sample8, 8, Button.circle),
        (Instr.sample9, 9, Button.triangle), (Instr.sample10, 10, Button.l1), (Instr.sample11, 11, Button.r1)],
    decodeWord (0x40#8 ||| BitVec.ofNat 8 row.2.1.val) = .instr row.1 ∧
    ∃ t b, exec row.1 s = .next t ∧
      t = { s with
        sv := s.sv.set row.2.1.val b row.2.1.isLt, btn := t.btn, tr := s.tr ++ [.rd b], upc := s.upc + 1
        data := t.data, env := s.env.tail, draws := t.draws } ∧
      (∀ j : Fin 16, t.btn.getLsbD j.val = (s.btn.getLsbD j.val || (b && decide (j = Config.buttonBit row.2.2)))) ∧
      (s.pinmap.wf = true → (b = true ↔ t.data[s.pinmap.dataRead]? = some .low)) ∧
      (s.pinmap.wf = true → ∀ ds v, s.moveAt 0 = some ds → s.answerUnder ds = some v → (b = true ↔ v = .low))

/-- 42_report_builder.md section 2, the four direction positions: a true sample overwrites its axis with -127 or 127, a false
one leaves it; BTN and the other axis are unchanged. An axis register is read as two's complement, which is presumed
(log 12). -/
def Obligations.DirectionSamplesOverwriteTheirAxis : Prop :=
  ∀ s : State, s.cfg = true → s.upc ≠ 63 →
    ∀ row ∈ [(Instr.sample4, (4 : Fin 12), false, (-127 : Int)), (Instr.sample5, 5, false, 127),
        (Instr.sample6, 6, true, -127), (Instr.sample7, 7, true, 127)],
    decodeWord (0x40#8 ||| BitVec.ofNat 8 row.2.1.val) = .instr row.1 ∧
    ∃ t b, exec row.1 s = .next t ∧
      t = { s with
        sv := s.sv.set row.2.1.val b row.2.1.isLt, x := t.x, y := t.y, tr := s.tr ++ [.rd b], upc := s.upc + 1
        data := t.data, env := s.env.tail, draws := t.draws } ∧
      t.x.toInt = (if b = true ∧ row.2.2.1 = true then row.2.2.2 else s.x.toInt) ∧
      t.y.toInt = (if b = true ∧ row.2.2.1 = false then row.2.2.2 else s.y.toInt) ∧
      (s.pinmap.wf = true → (b = true ↔ t.data[s.pinmap.dataRead]? = some .low)) ∧
      (s.pinmap.wf = true → ∀ ds v, s.moveAt 0 = some ds → s.answerUnder ds = some v → (b = true ↔ v = .low))

/-- 41_shift_register_poller.md section 1, END: RB holds the report registers in the wire format, whatever it held
before; `busy` is cleared; the index stays; no byte outside RB exists to change. Read as one 32-bit number, RB is BTN,
Y, X from the top (30_encoding.md section 3). -/
def Obligations.EndHandsTheReportOver : Prop :=
  ∀ s : State, ∃ t, exec .endPoll s = .next t ∧
    t = { s with mem := t.mem, busy := false, tr := s.tr ++ [.endPoll] } ∧
    t.reportBytes = [some s.x, some s.y, some (s.btn.extractLsb' 0 8), some (s.btn.extractLsb' 8 8)] ∧
    t.reportWord = some (s.btn ++ (s.y ++ s.x)) ∧
    ∀ k, 4 ≤ k → t.readByte k = s.readByte k

/-- A poll of a configured, idle block that holds the given microprogram, under every environment: its trace is one
frame, its samples are in SV and in the caller's hands, the registers are BUILD of them, RB is their wire format, the
lines rest at High and Low, and the rest of the state is unchanged (41_shift_register_poller.md section 2;
42_report_builder.md section 3). -/
def Obligations.PollRunsOneFrame : Prop :=
  ∀ s : State, s.cfg = true → s.busy = false → s.rom = microprogram →
    ∃ (t : State) (b : SampleVector), exec .poll s = .next t ∧
      t = { s with
        clock := .high, latch := .low, busy := false, upc := 63, sv := b
        x := (buildReport b).x, y := (buildReport b).y, btn := (buildReport b).btn
        mem := t.mem, t := s.t + 21, tr := s.tr ++ frameEvents b, results := s.results ++ [.samples b]
        data := t.data, env := s.env.drop 12, draws := t.draws } ∧
      t.reportBytes = (wireFormat (buildReport b)).map some ∧
      (∀ k, 4 ≤ k → t.readByte k = s.readByte k) ∧ (frameEvents b).length = 64 ∧
      samplesRead (frameEvents b) = b.toList

/-- R128: the waits of one poll add up to 12 + 3 + 6 = 21 units, `t` grows by exactly that, and for a time-unit of any
length the real time is at least 21 of it. -/
def Obligations.PollWaitsTwentyOneUnits : Prop :=
  Config.nSamples * Config.tPulse + Config.nPad * Config.tPulse + Config.tSettle = 21 ∧
  ∀ s : State, s.cfg = true → s.busy = false → s.rom = microprogram →
    ∃ (t : State) (es : List Event), exec .poll s = .next t ∧ t.tr = s.tr ++ es ∧ t.t = s.t + 21 ∧ waited es = 21 ∧
      ∀ tUnit : Rat, leastRealTime tUnit es = 21 * tUnit

/-- R129: started by POLL, the sequencer is busy at index k after k steps for every k below 64, and has ended after
exactly 64, under every environment, in the state POLL answers (but for the result handed to the caller), with `refused`
unchanged. -/
def Obligations.PollCompletesInExactlySixtyFourSteps : Prop :=
  ∀ s : State, s.cfg = true → s.busy = false → s.rom = microprogram → s.refused = false →
    (∀ k, k < 64 → ∃ u : State, Host.Core.run Sys2Proof.core k s.beginPoll = .next u ∧ u.busy = true ∧ u.upc.toNat = k) ∧
    ∃ t u : State, exec .poll s = .next t ∧ Host.Core.run Sys2Proof.core 64 s.beginPoll = .next u ∧
      u.busy = false ∧ u = { t with results := s.results } ∧ t.refused = false

/-- R130: under Disconnected, where every read answers High, a poll ends with SV all false and a neutral report; and so it
does, alike, with a connected controller with nothing pressed, so the block cannot tell them apart. A line that nothing
drives, on lines as CONFIGURE leaves them, is such an environment. -/
def Obligations.DisconnectedPollIsNeutral : Prop :=
  (∀ s : State, s.cfg = true → s.busy = false → s.rom = microprogram → s.pinmap.wf = true →
    (Disconnected s ∨ IdealAnswers s (Vector.replicate 12 false)) →
    ∃ t : State, exec .poll s = .next t ∧ t.sv = Vector.replicate 12 false ∧ t.x = 0 ∧ t.y = 0 ∧ t.btn = 0 ∧
      t.reportBytes = [some 0, some 0, some 0, some 0] ∧
      t.tr = s.tr ++ frameEvents (Vector.replicate 12 false)) ∧
  (∀ s : State, LinesConfigured s → Undriven s → Disconnected s)

/-- 20_memory.md section 3, the environment Ideal(v): the poll's samples are v, and its report is BUILD of v. -/
def Obligations.IdealPollReportsItsVector : Prop :=
  ∀ (s : State) (v : SampleVector), s.cfg = true → s.busy = false → s.rom = microprogram → s.pinmap.wf = true →
    IdealAnswers s v →
    ∃ t : State, exec .poll s = .next t ∧ t.sv = v ∧ t.reportRegs = buildReport v ∧
      t.reportBytes = (wireFormat (buildReport v)).map some

/-- R133: after the sample of position 11 the poll performs exactly three more pulses, with no read after any of them,
before the settle wait. -/
def Obligations.ThreePaddingPulsesFollowTheLastSample : Prop :=
  ∀ s : State, s.cfg = true → s.busy = false → s.rom = microprogram →
    ∃ (t : State) (before : List Event) (b11 : Bool), exec .poll s = .next t ∧
      t.tr = s.tr ++ before ++ [.rd b11] ++ [.clk .high, .wt 1, .clk .low, .clk .high, .wt 1, .clk .low,
        .clk .high, .wt 1, .clk .low] ++ [.wt 6, .clk .high, .endPoll] ∧
      (samplesRead (before ++ [.rd b11])).length = 12

/-- R134: after the third padding pulse both lines are Low; the settle wait of six units passes with both Low; then
CLOCK goes High, and the poll ends there, so that the bus rests at High and Low. -/
def Obligations.PollSettlesAndRestsClockHigh : Prop :=
  ∀ s : State, s.cfg = true → s.busy = false → s.rom = microprogram → s.refused = false →
    ∃ u61 u62 u63 u64 : State,
      Host.Core.run Sys2Proof.core 61 s.beginPoll = .next u61 ∧ u61.clock = .low ∧ u61.latch = .low ∧
      step u61 = .next u62 ∧ u62.t = u61.t + 6 ∧ u62.clock = .low ∧ u62.latch = .low ∧
      u62.tr = u61.tr ++ [.wt 6] ∧
      step u62 = .next u63 ∧ u63.clock = .high ∧ u63.latch = .low ∧ u63.tr = u62.tr ++ [.clk .high] ∧
      step u63 = .next u64 ∧ u64.busy = false ∧ u64.clock = .high ∧ u64.latch = .low ∧
      u64.tr = u63.tr ++ [.endPoll]

/-- 41_shift_register_poller.md section 2, edges on the wire: 15 falling edges of CLOCK in a poll, 15 rising edges when
CLOCK began High and 16 when it began Low, one edge of LATCH each way when it began Low; and at the sample of position p,
p + 1 falling and p rising edges of CLOCK since latch-low. -/
def Obligations.ClockEdgesOfOnePoll : Prop :=
  ∀ s : State, s.cfg = true → s.busy = false → s.rom = microprogram →
    ∃ (t : State) (es : List Event), exec .poll s = .next t ∧ t.tr = s.tr ++ es ∧
      fallingEdges .clock s.clock es = 15 ∧
      risingEdges .clock s.clock es = (if s.clock = .high then 15 else 16) ∧
      (s.latch = .low → risingEdges .latch s.latch es = 1 ∧ fallingEdges .latch s.latch es = 1) ∧
      ∀ p, p < 12 →
        (∃ b, es[7 + 4 * p]? = some (.rd b)) ∧
        fallingEdges .clock .high ((es.drop 4).take (4 * p + 3)) = p + 1 ∧
        risingEdges .clock .high ((es.drop 4).take (4 * p + 3)) = p ∧
        clockAfter .high ((es.drop 4).take (4 * p + 3)) = .low

/-- 42_report_builder.md section 3, interleaved equals pure, at every stage: after k positions have been sampled, k samples
have been read; SV holds them at its first k positions and false beyond; and the report registers are BUILD of SV. -/
def Obligations.RegistersAreBuildOfTheSamplesSoFar : Prop :=
  ∀ (s : State) (k : Nat), s.cfg = true → s.busy = false → s.rom = microprogram → s.refused = false → k ≤ 12 →
    ∃ (u : State) (es : List Event), Host.Core.run Sys2Proof.core (4 + 4 * k) s.beginPoll = .next u ∧
      u.tr = s.tr ++ es ∧ (samplesRead es).length = k ∧
      (∀ p : Fin 12, p.val < k → (samplesRead es)[p.val]? = some u.sv[p]) ∧
      (∀ p : Fin 12, k ≤ p.val → u.sv[p] = false) ∧ u.reportRegs = buildReport u.sv

/-- A poll in progress is never held up (41_shift_register_poller.md section 1): in every state of the invariant the
sequencer has a next step, whatever the environment answers. -/
def Obligations.PollInProgressIsNeverHeldUp : Prop :=
  ∀ s : State, Inv s → s.refused = false → s.busy = true → ∃ t, step s = .next t

/-! ### Report Builder -/

/-- 42_report_builder.md section 1, RSTREP: neutral report, SV cleared, RB untouched. -/
def Obligations.RstrepMakesTheReportNeutral : Prop :=
  ∀ s : State, s.upc ≠ 63 → exec .rstrep s =
    .next { s with
      x := 0, y := 0, btn := 0, sv := Vector.replicate 12 false, tr := s.tr ++ [.rst], upc := s.upc + 1 }

/-- 42_report_builder.md section 3, BUILD: the closed form of the mapping, given to the caller. That no register is written
is the model's inference (log 16); an axis is read as two's complement, which is presumed (log 12). -/
def Obligations.BuildIsTheClosedFormOfTheMapping : Prop :=
  ∀ (sv : SampleVector) (s : State), ∃ r : Report,
    exec (.build sv) s = .next { s with results := s.results ++ [.report r] } ∧
    r.x.toInt = (if sv[7] then (127 : Int) else if sv[6] then -127 else 0) ∧
    r.y.toInt = (if sv[5] then (127 : Int) else if sv[4] then -127 else 0) ∧
    (∀ b : Button, r.btn.getLsbD (Config.buttonBit b).val = sv[buttonPosition b]) ∧
    (∀ j : Fin 16, (∀ b : Button, Config.buttonBit b ≠ j) → r.btn.getLsbD j.val = false)

/-- 42_report_builder.md section 3, the tie-break: the table of each axis; up and down together give 127, left and right
together give 127. That no register is written is the model's inference (log 16); an axis is read as two's complement,
which is presumed (log 12). -/
def Obligations.LaterDirectionWins : Prop :=
  ∀ (sv : SampleVector) (s : State), ∃ r : Report,
    exec (.build sv) s = .next { s with results := s.results ++ [.report r] } ∧
    (sv[4] = false → sv[5] = false → r.y.toInt = 0) ∧ (sv[4] = true → sv[5] = false → r.y.toInt = -127) ∧
    (sv[4] = false → sv[5] = true → r.y.toInt = 127) ∧ (sv[4] = true → sv[5] = true → r.y.toInt = 127) ∧
    (sv[6] = false → sv[7] = false → r.x.toInt = 0) ∧ (sv[6] = true → sv[7] = false → r.x.toInt = -127) ∧
    (sv[6] = false → sv[7] = true → r.x.toInt = 127) ∧ (sv[6] = true → sv[7] = true → r.x.toInt = 127)

/-- R165: a button position sets its own bit of a cleared BTN and has no effect on another bit or an axis; a direction
position has no effect on BTN. -/
def Obligations.ButtonBitsAreIndependent : Prop :=
  ∀ (sv : SampleVector) (v : Bool),
    (∀ b : Button,
      let sv' := sv.set (buttonPosition b).val v (buttonPosition b).isLt
      (buildReport sv').x = (buildReport sv).x ∧ (buildReport sv').y = (buildReport sv).y ∧
      (buildReport sv').btn.getLsbD (Config.buttonBit b).val = v ∧
      ∀ j : Fin 16, j ≠ Config.buttonBit b → (buildReport sv').btn.getLsbD j.val = (buildReport sv).btn.getLsbD j.val) ∧
    (∀ p : Fin 12, 4 ≤ p.val → p.val ≤ 7 → (buildReport (sv.set p.val v p.isLt)).btn = (buildReport sv).btn)

/-- 42_report_builder.md section 5, the image of BUILD: exactly the reports whose axes are -127, 0 or 127 and whose BTN
is any subset of the eight button bits (30_encoding.md section 5). An axis is read as two's complement, which is presumed
(log 12). -/
def Obligations.ImageOfBuildIsTheLegalReports : Prop :=
  ∀ r : Report, (∃ sv, buildReport sv = r) ↔
    (r.x.toInt = -127 ∨ r.x.toInt = 0 ∨ r.x.toInt = 127) ∧ (r.y.toInt = -127 ∨ r.y.toInt = 0 ∨ r.y.toInt = 127) ∧
    ∀ j : Fin 16, (∀ b : Button, Config.buttonBit b ≠ j) → r.btn.getLsbD j.val = false

/-- 42_report_builder.md section 5, under the default bits only: BTN is the packed sample vector and 0x0F0F. -/
def Obligations.DefaultBitsMaskThePackedVector : Prop :=
  ∀ sv : SampleVector, (buildWith Config.defaultBit sv).btn = (packed sv).zeroExtend 16 &&& 0x0F0F#16

/-- 42_report_builder.md section 4, SERIALIZE: all four bytes of RB, and nothing else. -/
def Obligations.SerializeWritesTheWireFormat : Prop :=
  ∀ s : State, ∃ t, exec .serialize s = .next t ∧ t = { s with mem := t.mem } ∧
    t.reportBytes = [some s.x, some s.y, some (s.btn.extractLsb' 0 8), some (s.btn.extractLsb' 8 8)] ∧
    ∀ k, 4 ≤ k → t.readByte k = s.readByte k

/-! ### Host boundary -/

/-- R180, R181: one call is one poll; the host gets the four bytes of RB, which are the wire format of BUILD of this
poll's samples, and `false`; the refusals are POLL's. -/
def Obligations.OnCreateReportReturnsThePollsReport : Prop :=
  ∀ s : State,
    (s.cfg = true → s.busy = false → s.rom = microprogram →
      ∃ (t : State) (b : SampleVector) (b0 b1 b2 b3 : Byte), exec .onCreateReport s = .next t ∧
        [b0, b1, b2, b3] = wireFormat (buildReport b) ∧ t.reportBytes = [some b0, some b1, some b2, some b3] ∧
        (∀ k, 4 ≤ k → t.readByte k = s.readByte k) ∧
        t = { s with
          clock := .high, latch := .low, busy := false, upc := 63, sv := b
          x := (buildReport b).x, y := (buildReport b).y, btn := (buildReport b).btn
          mem := t.mem, t := s.t + 21, tr := s.tr ++ frameEvents b
          results := s.results ++ [.bytes b0 b1 b2 b3 false]
          data := t.data, env := s.env.drop 12, draws := t.draws }) ∧
    (s.cfg = false → exec .onCreateReport s = .refused .notConfigured) ∧
    (s.cfg = true → s.busy = true → exec .onCreateReport s = .refused .busy)

/-- R182, R183: host reports and lifecycle events read and write no state, and are never refused. -/
def Obligations.HostReportsAndLifecycleEventsHaveNoEffect : Prop :=
  ∀ (s : State) (b : List Byte) (e : LifecycleEvent),
    exec (.onHostReport b) s = .next s ∧ exec (.lifecycle e) s = .next s

/-- R43: the report is a function of this poll's twelve samples alone: two polls from any two states, whatever their
registers, buffers and pasts hold, whose samples agree end with the same report, and each clears the report fields
before its first read. -/
def Obligations.ReportDependsOnThisPollsSamplesAlone : Prop :=
  ∀ s1 s2 : State, s1.cfg = true → s1.busy = false → s1.rom = microprogram →
    s2.cfg = true → s2.busy = false → s2.rom = microprogram →
    ∃ (t1 t2 : State) (es1 es2 : List Event),
      exec .onCreateReport s1 = .next t1 ∧ exec .onCreateReport s2 = .next t2 ∧
      t1.tr = s1.tr ++ es1 ∧ t2.tr = s2.tr ++ es2 ∧
      (∃ after, es1 = [.clk .high, .lat .high, .rst] ++ after) ∧
      (samplesRead es1 = samplesRead es2 →
        t1.sv = t2.sv ∧ t1.reportRegs = t2.reportRegs ∧ t1.reportBytes = t2.reportBytes ∧
        t1.results.getLast? = t2.results.getLast?)

/-! ### Refusals -/

/-- 60_exceptions.md section 4, NotConfigured: before CONFIGURE every line operation and poll is refused, and so are TOGGLE
and every SAMPLE, by their parts (41_shift_register_poller.md section 1). That a direct TOGGLE exists is the model's
inference (log 17). -/
def Obligations.UnconfiguredBlockRefuses : Prop :=
  ∀ s : State, s.cfg = false →
    (∀ c v, exec (.setclk c v) s = .refused .notConfigured) ∧ (∀ c v, exec (.setlat c v) s = .refused .notConfigured) ∧
    (∀ c, exec (.toggle c) s = .refused .notConfigured) ∧ (∀ n, exec (.wait .direct n) s = .refused .notConfigured) ∧
    exec .readdata s = .refused .notConfigured ∧ exec .poll s = .refused .notConfigured ∧
    exec .onCreateReport s = .refused .notConfigured ∧
    ∀ i ∈ [Instr.sample0, .sample1, .sample2, .sample3, .sample4, .sample5, .sample6, .sample7, .sample8, .sample9,
      .sample10, .sample11], exec i s = .refused .notConfigured

/-- 60_exceptions.md section 4, Busy: while a poll is in progress a second caller is refused (40_gpio_line_driver.md section
2, direct calls). A direct TOGGLE is refused by its parts (41_shift_register_poller.md section 1); that it exists is the
model's inference (log 17). -/
def Obligations.BusyBlockRefusesASecondCaller : Prop :=
  ∀ s : State, s.cfg = true → s.busy = true →
    (∀ v, exec (.setclk .direct v) s = .refused .busy) ∧ (∀ v, exec (.setlat .direct v) s = .refused .busy) ∧
    (∀ n, exec (.wait .direct n) s = .refused .busy) ∧ exec (.toggle .direct) s = .refused .busy ∧
    exec .readdata s = .refused .busy ∧ exec .poll s = .refused .busy ∧ exec .onCreateReport s = .refused .busy

/-! ### Whole-machine rules -/

/-- R24, R25: CONFIGURE stores the mapping and sets directions and pull-ups, and no instruction changes any of them
afterwards; nor does any clear `cfg`, change the microprogram or touch the mark. -/
def Obligations.ConfigurationIsWrittenOnce : Prop :=
  (∀ (m : PinMap) (s : State), s.cfg = false → ∃ t, exec (.configure m) s = .next t ∧ t.pinmap = m ∧
    t.dirClock = .output ∧ t.dirLatch = .output ∧
    (∀ k, k < m.nData → t.dirData[k]? = some .input ∧ t.pullupData[k]? = some .enabled)) ∧
  (∀ (i : Instr) (s t : State), s.cfg = true → exec i s = .next t →
    t.pinmap = s.pinmap ∧ t.dirClock = s.dirClock ∧ t.dirLatch = s.dirLatch ∧ t.dirData = s.dirData ∧
    t.pullupData = s.pullupData ∧ t.cfg = true ∧ t.rom = s.rom ∧ t.refused = s.refused)

/-- R52: a line holds the level last written to it until the next write of the same line: every instruction that does
not write a line leaves it alone; a write drives it at once, stands in the trace even when the level stays the same, and
is refused before CONFIGURE. -/
def Obligations.LineHoldsItsLevelUntilTheNextWrite : Prop :=
  (∀ (i : Instr) (s t : State), exec i s = .next t →
    (∀ c v, i ≠ .setclk c v) → (∀ c, i ≠ .toggle c) → (∀ m, i ≠ .configure m) → i ≠ .poll → i ≠ .onCreateReport →
    t.clock = s.clock) ∧
  (∀ (i : Instr) (s t : State), exec i s = .next t →
    (∀ c v, i ≠ .setlat c v) → (∀ m, i ≠ .configure m) → i ≠ .poll → i ≠ .onCreateReport → t.latch = s.latch) ∧
  (∀ (s : State) (c : Setting) (v : Level), s.cfg = true → s.busy = decide (c = .micro) →
    (∃ t, exec (.setclk c v) s = .next t ∧ t.clock = v ∧ t.tr = s.tr ++ [.clk v]) ∧
    (∃ t, exec (.setlat c v) s = .next t ∧ t.latch = v ∧ t.tr = s.tr ++ [.lat v])) ∧
  (∀ (s : State) (c : Setting) (v : Level), s.cfg = false →
    exec (.setclk c v) s = .refused .notConfigured ∧ exec (.setlat c v) s = .refused .notConfigured)

/-- 20_memory.md section 4: no byte of the report buffer changes but by SERIALIZE, at END, alone or within a poll. -/
def Obligations.BufferIsWrittenOnlyAtEnd : Prop :=
  ∀ (i : Instr) (s t : State), exec i s = .next t →
    i ≠ .endPoll → i ≠ .serialize → i ≠ .poll → i ≠ .onCreateReport → ∀ k, t.readByte k = s.readByte k

/-- 10_state.md section 5: which instructions write each data register. -/
def Obligations.DataRegistersChangeOnlyByTheirWriters : Prop :=
  ∀ (i : Instr) (s t : State), exec i s = .next t → i ≠ .poll → i ≠ .onCreateReport → i ≠ .rstrep →
    (i ≠ .sample6 → i ≠ .sample7 → t.x = s.x) ∧ (i ≠ .sample4 → i ≠ .sample5 → t.y = s.y) ∧
    (i ∉ [Instr.sample0, .sample1, .sample2, .sample3, .sample8, .sample9, .sample10, .sample11] → t.btn = s.btn) ∧
    (i ∉ [Instr.sample0, .sample1, .sample2, .sample3, .sample4, .sample5, .sample6, .sample7, .sample8, .sample9,
      .sample10, .sample11] → t.sv = s.sv)

/-- 20_memory.md section 2 and 10_state.md section 7: no instruction removes or reorders an event of the trace, and `t`
grows by exactly the waits it appends. -/
def Obligations.TraceOnlyGrowsAndTimeCountsItsWaits : Prop :=
  ∀ (i : Instr) (s t : State), exec i s = .next t → ∃ es, t.tr = s.tr ++ es ∧ t.t = s.t + waited es

/-- 20_memory.md section 5, extra data lines: two blocks that differ only in what the environment does, and has done, on
the lines that are not read have the same poll: every register, the trace, the buffer and the results agree. -/
def Obligations.ExtraDataLinesHaveNoEffect : Prop :=
  ∀ (s : State) (env' : List (List Drive)) (rest' : Option (List Drive)) (data' : List Level),
    s.cfg = true → s.busy = false → s.rom = microprogram → s.pinmap.wf = true →
    env'.map (fun ds => driveOf ds s.pinmap.dataRead) = s.env.map (fun ds => driveOf ds s.pinmap.dataRead) →
    rest'.map (fun ds => driveOf ds s.pinmap.dataRead) = s.envRest.map (fun ds => driveOf ds s.pinmap.dataRead) →
    ∃ t t' : State, exec .onCreateReport s = .next t ∧
      exec .onCreateReport { s with env := env', envRest := rest', data := data' } = .next t' ∧
      t' = { t with env := t'.env, envRest := rest', data := t'.data }

/-! ### The port view -/

/-- 10_state.md section 10, the output pins: they show CLOCK, LATCH and `busy`; `report` is RB from its last byte to its
first, and is valid exactly when `busy` is false and an END has been; the END of a poll makes it valid, with BTN, Y and X
from the top; and it is not valid while a later poll runs. -/
def Obligations.PortOutputsShowTheBlock : Prop :=
  (∀ s : State, s.outputs.clockOut = s.clock ∧ s.outputs.latchOut = s.latch ∧ s.outputs.busy = s.busy) ∧
  (∀ s : State, s.busy = true ∨ .endPoll ∉ s.tr → s.outputs.report = none) ∧
  (∀ (s : State) (b0 b1 b2 b3 : Byte), s.busy = false → .endPoll ∈ s.tr →
    s.reportBytes = [some b0, some b1, some b2, some b3] → s.outputs.report = some ((b3 ++ b2) ++ (b1 ++ b0))) ∧
  (∀ s : State, ∃ t, exec .endPoll s = .next t ∧ t.outputs.report = some (s.btn ++ (s.y ++ s.x))) ∧
  (∀ s : State, s.beginPoll.outputs.report = none)

/-- 10_state.md section 10, the input pins, in the model's cycle (log 26), on an unmarked block: with no wait passing
`configure_go` does what CONFIGURE does and `poll_go` starts POLL, or is refused as POLL is; a quiet cycle performs the next
word of a poll in progress, reading `data_in`, and the time the word adds is still to pass; a quiet idle cycle changes no
state but the levels of the data lines. -/
def Obligations.PortInputsDriveTheOperations : Prop :=
  ∀ (m : PinMap) (vs : List Level) (tick : Bool) (s : State), s.refused = false →
    (∀ u, exec (.configure m) (s.withDataIn vs) = .next u →
      PortBlock.cycle m ⟨vs, true, false, tick⟩ ⟨s, 0⟩ = .next ⟨u, 0⟩) ∧
    (s.cfg = true → PortBlock.cycle m ⟨vs, true, false, tick⟩ ⟨s, 0⟩ = .refused .reconfigure) ∧
    (s.cfg = true → s.busy = false →
      PortBlock.cycle m ⟨vs, false, true, tick⟩ ⟨s, 0⟩ = .next ⟨(s.withDataIn vs).beginPoll, 0⟩) ∧
    (s.cfg = false → PortBlock.cycle m ⟨vs, false, true, tick⟩ ⟨s, 0⟩ = .refused .notConfigured) ∧
    (s.cfg = true → s.busy = true → PortBlock.cycle m ⟨vs, false, true, tick⟩ ⟨s, 0⟩ = .refused .busy) ∧
    (∀ u, s.busy = true → step (s.withDataIn vs) = .next u →
      PortBlock.cycle m ⟨vs, false, false, tick⟩ ⟨s, 0⟩ = .next ⟨u, u.t - s.t⟩) ∧
    (s.busy = false → PortBlock.cycle m ⟨vs, false, false, tick⟩ ⟨s, 0⟩ = .next ⟨s.withDataIn vs, 0⟩)

/-- 10_state.md section 10, `unit_tick`, in the model's cycle (log 26): while fewer ticks have come than the wait in progress
has units to pass, any number of quiet cycles perform nothing, the ticks are counted off, and only the data lines' levels
have moved; the tick that makes the count whole ends the wait. -/
def Obligations.WaitConsumesItsUnitTicks : Prop :=
  ∀ (m : PinMap) (ins : List PortInputs) (p : PortBlock), p.state.refused = false → (∀ i ∈ ins, i.quiet = true) →
    (ins.countP (·.unitTick) < p.ticks →
      ∃ q, PortBlock.run m ins p = .next q ∧ q.ticks = p.ticks - ins.countP (·.unitTick) ∧
        q.state = { p.state with data := q.state.data, env := q.state.env }) ∧
    (∀ i, i.quiet = true → i.unitTick = true → ins.countP (·.unitTick) + 1 = p.ticks →
      ∃ q, PortBlock.run m (ins ++ [i]) p = .next q ∧ q.ticks = 0 ∧
        q.state = { p.state with data := q.state.data, env := q.state.env })

/-! ### The invariant -/

/-- The invariant holds at power-on (with the reset values the model names: log 7 to 10). -/
def Obligations.InvariantHoldsAtPowerOn : Prop := Inv State.reset

/-- The invariant is kept by every step, from every state that has it: a call of the host, a micro-operation of a poll in
progress, or standing idle. -/
def Obligations.EveryStepKeepsTheInvariant : Prop :=
  ∀ s t : State, Inv s → step s = .next t → Inv t
end

