-- ==== Sys2Proof/Laws/State.lean ====
section
/-! SUPPORT. One lemma per field per update of the state, true by unfolding the one record update. -/

namespace Sys2Proof.Machine

variable (s : State)

/-! ### emit -/

@[simp] theorem State.emit_clock (e : Event) : (s.emit e).clock = s.clock := rfl
@[simp] theorem State.emit_latch (e : Event) : (s.emit e).latch = s.latch := rfl
@[simp] theorem State.emit_data (e : Event) : (s.emit e).data = s.data := rfl
@[simp] theorem State.emit_pinmap (e : Event) : (s.emit e).pinmap = s.pinmap := rfl
@[simp] theorem State.emit_dirClock (e : Event) : (s.emit e).dirClock = s.dirClock := rfl
@[simp] theorem State.emit_dirLatch (e : Event) : (s.emit e).dirLatch = s.dirLatch := rfl
@[simp] theorem State.emit_dirData (e : Event) : (s.emit e).dirData = s.dirData := rfl
@[simp] theorem State.emit_pullupData (e : Event) : (s.emit e).pullupData = s.pullupData := rfl
@[simp] theorem State.emit_cfg (e : Event) : (s.emit e).cfg = s.cfg := rfl
@[simp] theorem State.emit_busy (e : Event) : (s.emit e).busy = s.busy := rfl
@[simp] theorem State.emit_upc (e : Event) : (s.emit e).upc = s.upc := rfl
@[simp] theorem State.emit_sv (e : Event) : (s.emit e).sv = s.sv := rfl
@[simp] theorem State.emit_x (e : Event) : (s.emit e).x = s.x := rfl
@[simp] theorem State.emit_y (e : Event) : (s.emit e).y = s.y := rfl
@[simp] theorem State.emit_btn (e : Event) : (s.emit e).btn = s.btn := rfl
@[simp] theorem State.emit_mem (e : Event) : (s.emit e).mem = s.mem := rfl
@[simp] theorem State.emit_t (e : Event) : (s.emit e).t = s.t := rfl
@[simp] theorem State.emit_tr (e : Event) : (s.emit e).tr = s.tr ++ [e] := rfl
@[simp] theorem State.emit_refused (e : Event) : (s.emit e).refused = s.refused := rfl
@[simp] theorem State.emit_rom (e : Event) : (s.emit e).rom = s.rom := rfl
@[simp] theorem State.emit_env (e : Event) : (s.emit e).env = s.env := rfl
@[simp] theorem State.emit_envRest (e : Event) : (s.emit e).envRest = s.envRest := rfl
@[simp] theorem State.emit_draws (e : Event) : (s.emit e).draws = s.draws := rfl
@[simp] theorem State.emit_calls (e : Event) : (s.emit e).calls = s.calls := rfl
@[simp] theorem State.emit_results (e : Event) : (s.emit e).results = s.results := rfl

/-! ### driveClock -/

@[simp] theorem State.driveClock_clock (v : Level) : (s.driveClock v).clock = v := rfl
@[simp] theorem State.driveClock_latch (v : Level) : (s.driveClock v).latch = s.latch := rfl
@[simp] theorem State.driveClock_data (v : Level) : (s.driveClock v).data = s.data := rfl
@[simp] theorem State.driveClock_pinmap (v : Level) : (s.driveClock v).pinmap = s.pinmap := rfl
@[simp] theorem State.driveClock_dirClock (v : Level) : (s.driveClock v).dirClock = s.dirClock := rfl
@[simp] theorem State.driveClock_dirLatch (v : Level) : (s.driveClock v).dirLatch = s.dirLatch := rfl
@[simp] theorem State.driveClock_dirData (v : Level) : (s.driveClock v).dirData = s.dirData := rfl
@[simp] theorem State.driveClock_pullupData (v : Level) : (s.driveClock v).pullupData = s.pullupData := rfl
@[simp] theorem State.driveClock_cfg (v : Level) : (s.driveClock v).cfg = s.cfg := rfl
@[simp] theorem State.driveClock_busy (v : Level) : (s.driveClock v).busy = s.busy := rfl
@[simp] theorem State.driveClock_upc (v : Level) : (s.driveClock v).upc = s.upc := rfl
@[simp] theorem State.driveClock_sv (v : Level) : (s.driveClock v).sv = s.sv := rfl
@[simp] theorem State.driveClock_x (v : Level) : (s.driveClock v).x = s.x := rfl
@[simp] theorem State.driveClock_y (v : Level) : (s.driveClock v).y = s.y := rfl
@[simp] theorem State.driveClock_btn (v : Level) : (s.driveClock v).btn = s.btn := rfl
@[simp] theorem State.driveClock_mem (v : Level) : (s.driveClock v).mem = s.mem := rfl
@[simp] theorem State.driveClock_t (v : Level) : (s.driveClock v).t = s.t := rfl
@[simp] theorem State.driveClock_tr (v : Level) : (s.driveClock v).tr = s.tr := rfl
@[simp] theorem State.driveClock_refused (v : Level) : (s.driveClock v).refused = s.refused := rfl
@[simp] theorem State.driveClock_rom (v : Level) : (s.driveClock v).rom = s.rom := rfl
@[simp] theorem State.driveClock_env (v : Level) : (s.driveClock v).env = s.env := rfl
@[simp] theorem State.driveClock_envRest (v : Level) : (s.driveClock v).envRest = s.envRest := rfl
@[simp] theorem State.driveClock_draws (v : Level) : (s.driveClock v).draws = s.draws := rfl
@[simp] theorem State.driveClock_calls (v : Level) : (s.driveClock v).calls = s.calls := rfl
@[simp] theorem State.driveClock_results (v : Level) : (s.driveClock v).results = s.results := rfl

/-! ### driveLatch -/

@[simp] theorem State.driveLatch_clock (v : Level) : (s.driveLatch v).clock = s.clock := rfl
@[simp] theorem State.driveLatch_latch (v : Level) : (s.driveLatch v).latch = v := rfl
@[simp] theorem State.driveLatch_data (v : Level) : (s.driveLatch v).data = s.data := rfl
@[simp] theorem State.driveLatch_pinmap (v : Level) : (s.driveLatch v).pinmap = s.pinmap := rfl
@[simp] theorem State.driveLatch_dirClock (v : Level) : (s.driveLatch v).dirClock = s.dirClock := rfl
@[simp] theorem State.driveLatch_dirLatch (v : Level) : (s.driveLatch v).dirLatch = s.dirLatch := rfl
@[simp] theorem State.driveLatch_dirData (v : Level) : (s.driveLatch v).dirData = s.dirData := rfl
@[simp] theorem State.driveLatch_pullupData (v : Level) : (s.driveLatch v).pullupData = s.pullupData := rfl
@[simp] theorem State.driveLatch_cfg (v : Level) : (s.driveLatch v).cfg = s.cfg := rfl
@[simp] theorem State.driveLatch_busy (v : Level) : (s.driveLatch v).busy = s.busy := rfl
@[simp] theorem State.driveLatch_upc (v : Level) : (s.driveLatch v).upc = s.upc := rfl
@[simp] theorem State.driveLatch_sv (v : Level) : (s.driveLatch v).sv = s.sv := rfl
@[simp] theorem State.driveLatch_x (v : Level) : (s.driveLatch v).x = s.x := rfl
@[simp] theorem State.driveLatch_y (v : Level) : (s.driveLatch v).y = s.y := rfl
@[simp] theorem State.driveLatch_btn (v : Level) : (s.driveLatch v).btn = s.btn := rfl
@[simp] theorem State.driveLatch_mem (v : Level) : (s.driveLatch v).mem = s.mem := rfl
@[simp] theorem State.driveLatch_t (v : Level) : (s.driveLatch v).t = s.t := rfl
@[simp] theorem State.driveLatch_tr (v : Level) : (s.driveLatch v).tr = s.tr := rfl
@[simp] theorem State.driveLatch_refused (v : Level) : (s.driveLatch v).refused = s.refused := rfl
@[simp] theorem State.driveLatch_rom (v : Level) : (s.driveLatch v).rom = s.rom := rfl
@[simp] theorem State.driveLatch_env (v : Level) : (s.driveLatch v).env = s.env := rfl
@[simp] theorem State.driveLatch_envRest (v : Level) : (s.driveLatch v).envRest = s.envRest := rfl
@[simp] theorem State.driveLatch_draws (v : Level) : (s.driveLatch v).draws = s.draws := rfl
@[simp] theorem State.driveLatch_calls (v : Level) : (s.driveLatch v).calls = s.calls := rfl
@[simp] theorem State.driveLatch_results (v : Level) : (s.driveLatch v).results = s.results := rfl

/-! ### addTime -/

@[simp] theorem State.addTime_clock (n : Nat) : (s.addTime n).clock = s.clock := rfl
@[simp] theorem State.addTime_latch (n : Nat) : (s.addTime n).latch = s.latch := rfl
@[simp] theorem State.addTime_data (n : Nat) : (s.addTime n).data = s.data := rfl
@[simp] theorem State.addTime_pinmap (n : Nat) : (s.addTime n).pinmap = s.pinmap := rfl
@[simp] theorem State.addTime_dirClock (n : Nat) : (s.addTime n).dirClock = s.dirClock := rfl
@[simp] theorem State.addTime_dirLatch (n : Nat) : (s.addTime n).dirLatch = s.dirLatch := rfl
@[simp] theorem State.addTime_dirData (n : Nat) : (s.addTime n).dirData = s.dirData := rfl
@[simp] theorem State.addTime_pullupData (n : Nat) : (s.addTime n).pullupData = s.pullupData := rfl
@[simp] theorem State.addTime_cfg (n : Nat) : (s.addTime n).cfg = s.cfg := rfl
@[simp] theorem State.addTime_busy (n : Nat) : (s.addTime n).busy = s.busy := rfl
@[simp] theorem State.addTime_upc (n : Nat) : (s.addTime n).upc = s.upc := rfl
@[simp] theorem State.addTime_sv (n : Nat) : (s.addTime n).sv = s.sv := rfl
@[simp] theorem State.addTime_x (n : Nat) : (s.addTime n).x = s.x := rfl
@[simp] theorem State.addTime_y (n : Nat) : (s.addTime n).y = s.y := rfl
@[simp] theorem State.addTime_btn (n : Nat) : (s.addTime n).btn = s.btn := rfl
@[simp] theorem State.addTime_mem (n : Nat) : (s.addTime n).mem = s.mem := rfl
@[simp] theorem State.addTime_t (n : Nat) : (s.addTime n).t = s.t + n := rfl
@[simp] theorem State.addTime_tr (n : Nat) : (s.addTime n).tr = s.tr := rfl
@[simp] theorem State.addTime_refused (n : Nat) : (s.addTime n).refused = s.refused := rfl
@[simp] theorem State.addTime_rom (n : Nat) : (s.addTime n).rom = s.rom := rfl
@[simp] theorem State.addTime_env (n : Nat) : (s.addTime n).env = s.env := rfl
@[simp] theorem State.addTime_envRest (n : Nat) : (s.addTime n).envRest = s.envRest := rfl
@[simp] theorem State.addTime_draws (n : Nat) : (s.addTime n).draws = s.draws := rfl
@[simp] theorem State.addTime_calls (n : Nat) : (s.addTime n).calls = s.calls := rfl
@[simp] theorem State.addTime_results (n : Nat) : (s.addTime n).results = s.results := rfl

/-! ### advance -/

@[simp] theorem State.advance_clock : (s.advance).clock = s.clock := rfl
@[simp] theorem State.advance_latch : (s.advance).latch = s.latch := rfl
@[simp] theorem State.advance_data : (s.advance).data = s.data := rfl
@[simp] theorem State.advance_pinmap : (s.advance).pinmap = s.pinmap := rfl
@[simp] theorem State.advance_dirClock : (s.advance).dirClock = s.dirClock := rfl
@[simp] theorem State.advance_dirLatch : (s.advance).dirLatch = s.dirLatch := rfl
@[simp] theorem State.advance_dirData : (s.advance).dirData = s.dirData := rfl
@[simp] theorem State.advance_pullupData : (s.advance).pullupData = s.pullupData := rfl
@[simp] theorem State.advance_cfg : (s.advance).cfg = s.cfg := rfl
@[simp] theorem State.advance_busy : (s.advance).busy = s.busy := rfl
@[simp] theorem State.advance_upc : (s.advance).upc = s.upc + 1 := rfl
@[simp] theorem State.advance_sv : (s.advance).sv = s.sv := rfl
@[simp] theorem State.advance_x : (s.advance).x = s.x := rfl
@[simp] theorem State.advance_y : (s.advance).y = s.y := rfl
@[simp] theorem State.advance_btn : (s.advance).btn = s.btn := rfl
@[simp] theorem State.advance_mem : (s.advance).mem = s.mem := rfl
@[simp] theorem State.advance_t : (s.advance).t = s.t := rfl
@[simp] theorem State.advance_tr : (s.advance).tr = s.tr := rfl
@[simp] theorem State.advance_refused : (s.advance).refused = s.refused := rfl
@[simp] theorem State.advance_rom : (s.advance).rom = s.rom := rfl
@[simp] theorem State.advance_env : (s.advance).env = s.env := rfl
@[simp] theorem State.advance_envRest : (s.advance).envRest = s.envRest := rfl
@[simp] theorem State.advance_draws : (s.advance).draws = s.draws := rfl
@[simp] theorem State.advance_calls : (s.advance).calls = s.calls := rfl
@[simp] theorem State.advance_results : (s.advance).results = s.results := rfl

/-! ### beginPoll -/

@[simp] theorem State.beginPoll_clock : (s.beginPoll).clock = s.clock := rfl
@[simp] theorem State.beginPoll_latch : (s.beginPoll).latch = s.latch := rfl
@[simp] theorem State.beginPoll_data : (s.beginPoll).data = s.data := rfl
@[simp] theorem State.beginPoll_pinmap : (s.beginPoll).pinmap = s.pinmap := rfl
@[simp] theorem State.beginPoll_dirClock : (s.beginPoll).dirClock = s.dirClock := rfl
@[simp] theorem State.beginPoll_dirLatch : (s.beginPoll).dirLatch = s.dirLatch := rfl
@[simp] theorem State.beginPoll_dirData : (s.beginPoll).dirData = s.dirData := rfl
@[simp] theorem State.beginPoll_pullupData : (s.beginPoll).pullupData = s.pullupData := rfl
@[simp] theorem State.beginPoll_cfg : (s.beginPoll).cfg = s.cfg := rfl
@[simp] theorem State.beginPoll_busy : (s.beginPoll).busy = true := rfl
@[simp] theorem State.beginPoll_upc : (s.beginPoll).upc = 0 := rfl
@[simp] theorem State.beginPoll_sv : (s.beginPoll).sv = s.sv := rfl
@[simp] theorem State.beginPoll_x : (s.beginPoll).x = s.x := rfl
@[simp] theorem State.beginPoll_y : (s.beginPoll).y = s.y := rfl
@[simp] theorem State.beginPoll_btn : (s.beginPoll).btn = s.btn := rfl
@[simp] theorem State.beginPoll_mem : (s.beginPoll).mem = s.mem := rfl
@[simp] theorem State.beginPoll_t : (s.beginPoll).t = s.t := rfl
@[simp] theorem State.beginPoll_tr : (s.beginPoll).tr = s.tr := rfl
@[simp] theorem State.beginPoll_refused : (s.beginPoll).refused = s.refused := rfl
@[simp] theorem State.beginPoll_rom : (s.beginPoll).rom = s.rom := rfl
@[simp] theorem State.beginPoll_env : (s.beginPoll).env = s.env := rfl
@[simp] theorem State.beginPoll_envRest : (s.beginPoll).envRest = s.envRest := rfl
@[simp] theorem State.beginPoll_draws : (s.beginPoll).draws = s.draws := rfl
@[simp] theorem State.beginPoll_calls : (s.beginPoll).calls = s.calls := rfl
@[simp] theorem State.beginPoll_results : (s.beginPoll).results = s.results := rfl

/-! ### setIdle -/

@[simp] theorem State.setIdle_clock : (s.setIdle).clock = s.clock := rfl
@[simp] theorem State.setIdle_latch : (s.setIdle).latch = s.latch := rfl
@[simp] theorem State.setIdle_data : (s.setIdle).data = s.data := rfl
@[simp] theorem State.setIdle_pinmap : (s.setIdle).pinmap = s.pinmap := rfl
@[simp] theorem State.setIdle_dirClock : (s.setIdle).dirClock = s.dirClock := rfl
@[simp] theorem State.setIdle_dirLatch : (s.setIdle).dirLatch = s.dirLatch := rfl
@[simp] theorem State.setIdle_dirData : (s.setIdle).dirData = s.dirData := rfl
@[simp] theorem State.setIdle_pullupData : (s.setIdle).pullupData = s.pullupData := rfl
@[simp] theorem State.setIdle_cfg : (s.setIdle).cfg = s.cfg := rfl
@[simp] theorem State.setIdle_busy : (s.setIdle).busy = false := rfl
@[simp] theorem State.setIdle_upc : (s.setIdle).upc = s.upc := rfl
@[simp] theorem State.setIdle_sv : (s.setIdle).sv = s.sv := rfl
@[simp] theorem State.setIdle_x : (s.setIdle).x = s.x := rfl
@[simp] theorem State.setIdle_y : (s.setIdle).y = s.y := rfl
@[simp] theorem State.setIdle_btn : (s.setIdle).btn = s.btn := rfl
@[simp] theorem State.setIdle_mem : (s.setIdle).mem = s.mem := rfl
@[simp] theorem State.setIdle_t : (s.setIdle).t = s.t := rfl
@[simp] theorem State.setIdle_tr : (s.setIdle).tr = s.tr := rfl
@[simp] theorem State.setIdle_refused : (s.setIdle).refused = s.refused := rfl
@[simp] theorem State.setIdle_rom : (s.setIdle).rom = s.rom := rfl
@[simp] theorem State.setIdle_env : (s.setIdle).env = s.env := rfl
@[simp] theorem State.setIdle_envRest : (s.setIdle).envRest = s.envRest := rfl
@[simp] theorem State.setIdle_draws : (s.setIdle).draws = s.draws := rfl
@[simp] theorem State.setIdle_calls : (s.setIdle).calls = s.calls := rfl
@[simp] theorem State.setIdle_results : (s.setIdle).results = s.results := rfl

/-! ### recordSample -/

@[simp] theorem State.recordSample_clock (p : Fin 12) (b : Bool) : (s.recordSample p b).clock = s.clock := rfl
@[simp] theorem State.recordSample_latch (p : Fin 12) (b : Bool) : (s.recordSample p b).latch = s.latch := rfl
@[simp] theorem State.recordSample_data (p : Fin 12) (b : Bool) : (s.recordSample p b).data = s.data := rfl
@[simp] theorem State.recordSample_pinmap (p : Fin 12) (b : Bool) : (s.recordSample p b).pinmap = s.pinmap := rfl
@[simp] theorem State.recordSample_dirClock (p : Fin 12) (b : Bool) : (s.recordSample p b).dirClock = s.dirClock := rfl
@[simp] theorem State.recordSample_dirLatch (p : Fin 12) (b : Bool) : (s.recordSample p b).dirLatch = s.dirLatch := rfl
@[simp] theorem State.recordSample_dirData (p : Fin 12) (b : Bool) : (s.recordSample p b).dirData = s.dirData := rfl
@[simp] theorem State.recordSample_pullupData (p : Fin 12) (b : Bool) : (s.recordSample p b).pullupData = s.pullupData := rfl
@[simp] theorem State.recordSample_cfg (p : Fin 12) (b : Bool) : (s.recordSample p b).cfg = s.cfg := rfl
@[simp] theorem State.recordSample_busy (p : Fin 12) (b : Bool) : (s.recordSample p b).busy = s.busy := rfl
@[simp] theorem State.recordSample_upc (p : Fin 12) (b : Bool) : (s.recordSample p b).upc = s.upc := rfl
@[simp] theorem State.recordSample_sv (p : Fin 12) (b : Bool) : (s.recordSample p b).sv = s.sv.set p.val b p.isLt := rfl
@[simp] theorem State.recordSample_x (p : Fin 12) (b : Bool) : (s.recordSample p b).x = s.x := rfl
@[simp] theorem State.recordSample_y (p : Fin 12) (b : Bool) : (s.recordSample p b).y = s.y := rfl
@[simp] theorem State.recordSample_btn (p : Fin 12) (b : Bool) : (s.recordSample p b).btn = s.btn := rfl
@[simp] theorem State.recordSample_mem (p : Fin 12) (b : Bool) : (s.recordSample p b).mem = s.mem := rfl
@[simp] theorem State.recordSample_t (p : Fin 12) (b : Bool) : (s.recordSample p b).t = s.t := rfl
@[simp] theorem State.recordSample_tr (p : Fin 12) (b : Bool) : (s.recordSample p b).tr = s.tr := rfl
@[simp] theorem State.recordSample_refused (p : Fin 12) (b : Bool) : (s.recordSample p b).refused = s.refused := rfl
@[simp] theorem State.recordSample_rom (p : Fin 12) (b : Bool) : (s.recordSample p b).rom = s.rom := rfl
@[simp] theorem State.recordSample_env (p : Fin 12) (b : Bool) : (s.recordSample p b).env = s.env := rfl
@[simp] theorem State.recordSample_envRest (p : Fin 12) (b : Bool) : (s.recordSample p b).envRest = s.envRest := rfl
@[simp] theorem State.recordSample_draws (p : Fin 12) (b : Bool) : (s.recordSample p b).draws = s.draws := rfl
@[simp] theorem State.recordSample_calls (p : Fin 12) (b : Bool) : (s.recordSample p b).calls = s.calls := rfl
@[simp] theorem State.recordSample_results (p : Fin 12) (b : Bool) : (s.recordSample p b).results = s.results := rfl

/-! ### setX -/

@[simp] theorem State.setX_clock (v : BitVec 8) : (s.setX v).clock = s.clock := rfl
@[simp] theorem State.setX_latch (v : BitVec 8) : (s.setX v).latch = s.latch := rfl
@[simp] theorem State.setX_data (v : BitVec 8) : (s.setX v).data = s.data := rfl
@[simp] theorem State.setX_pinmap (v : BitVec 8) : (s.setX v).pinmap = s.pinmap := rfl
@[simp] theorem State.setX_dirClock (v : BitVec 8) : (s.setX v).dirClock = s.dirClock := rfl
@[simp] theorem State.setX_dirLatch (v : BitVec 8) : (s.setX v).dirLatch = s.dirLatch := rfl
@[simp] theorem State.setX_dirData (v : BitVec 8) : (s.setX v).dirData = s.dirData := rfl
@[simp] theorem State.setX_pullupData (v : BitVec 8) : (s.setX v).pullupData = s.pullupData := rfl
@[simp] theorem State.setX_cfg (v : BitVec 8) : (s.setX v).cfg = s.cfg := rfl
@[simp] theorem State.setX_busy (v : BitVec 8) : (s.setX v).busy = s.busy := rfl
@[simp] theorem State.setX_upc (v : BitVec 8) : (s.setX v).upc = s.upc := rfl
@[simp] theorem State.setX_sv (v : BitVec 8) : (s.setX v).sv = s.sv := rfl
@[simp] theorem State.setX_x (v : BitVec 8) : (s.setX v).x = v := rfl
@[simp] theorem State.setX_y (v : BitVec 8) : (s.setX v).y = s.y := rfl
@[simp] theorem State.setX_btn (v : BitVec 8) : (s.setX v).btn = s.btn := rfl
@[simp] theorem State.setX_mem (v : BitVec 8) : (s.setX v).mem = s.mem := rfl
@[simp] theorem State.setX_t (v : BitVec 8) : (s.setX v).t = s.t := rfl
@[simp] theorem State.setX_tr (v : BitVec 8) : (s.setX v).tr = s.tr := rfl
@[simp] theorem State.setX_refused (v : BitVec 8) : (s.setX v).refused = s.refused := rfl
@[simp] theorem State.setX_rom (v : BitVec 8) : (s.setX v).rom = s.rom := rfl
@[simp] theorem State.setX_env (v : BitVec 8) : (s.setX v).env = s.env := rfl
@[simp] theorem State.setX_envRest (v : BitVec 8) : (s.setX v).envRest = s.envRest := rfl
@[simp] theorem State.setX_draws (v : BitVec 8) : (s.setX v).draws = s.draws := rfl
@[simp] theorem State.setX_calls (v : BitVec 8) : (s.setX v).calls = s.calls := rfl
@[simp] theorem State.setX_results (v : BitVec 8) : (s.setX v).results = s.results := rfl

/-! ### setY -/

@[simp] theorem State.setY_clock (v : BitVec 8) : (s.setY v).clock = s.clock := rfl
@[simp] theorem State.setY_latch (v : BitVec 8) : (s.setY v).latch = s.latch := rfl
@[simp] theorem State.setY_data (v : BitVec 8) : (s.setY v).data = s.data := rfl
@[simp] theorem State.setY_pinmap (v : BitVec 8) : (s.setY v).pinmap = s.pinmap := rfl
@[simp] theorem State.setY_dirClock (v : BitVec 8) : (s.setY v).dirClock = s.dirClock := rfl
@[simp] theorem State.setY_dirLatch (v : BitVec 8) : (s.setY v).dirLatch = s.dirLatch := rfl
@[simp] theorem State.setY_dirData (v : BitVec 8) : (s.setY v).dirData = s.dirData := rfl
@[simp] theorem State.setY_pullupData (v : BitVec 8) : (s.setY v).pullupData = s.pullupData := rfl
@[simp] theorem State.setY_cfg (v : BitVec 8) : (s.setY v).cfg = s.cfg := rfl
@[simp] theorem State.setY_busy (v : BitVec 8) : (s.setY v).busy = s.busy := rfl
@[simp] theorem State.setY_upc (v : BitVec 8) : (s.setY v).upc = s.upc := rfl
@[simp] theorem State.setY_sv (v : BitVec 8) : (s.setY v).sv = s.sv := rfl
@[simp] theorem State.setY_x (v : BitVec 8) : (s.setY v).x = s.x := rfl
@[simp] theorem State.setY_y (v : BitVec 8) : (s.setY v).y = v := rfl
@[simp] theorem State.setY_btn (v : BitVec 8) : (s.setY v).btn = s.btn := rfl
@[simp] theorem State.setY_mem (v : BitVec 8) : (s.setY v).mem = s.mem := rfl
@[simp] theorem State.setY_t (v : BitVec 8) : (s.setY v).t = s.t := rfl
@[simp] theorem State.setY_tr (v : BitVec 8) : (s.setY v).tr = s.tr := rfl
@[simp] theorem State.setY_refused (v : BitVec 8) : (s.setY v).refused = s.refused := rfl
@[simp] theorem State.setY_rom (v : BitVec 8) : (s.setY v).rom = s.rom := rfl
@[simp] theorem State.setY_env (v : BitVec 8) : (s.setY v).env = s.env := rfl
@[simp] theorem State.setY_envRest (v : BitVec 8) : (s.setY v).envRest = s.envRest := rfl
@[simp] theorem State.setY_draws (v : BitVec 8) : (s.setY v).draws = s.draws := rfl
@[simp] theorem State.setY_calls (v : BitVec 8) : (s.setY v).calls = s.calls := rfl
@[simp] theorem State.setY_results (v : BitVec 8) : (s.setY v).results = s.results := rfl

/-! ### setBtnBit -/

@[simp] theorem State.setBtnBit_clock (i : Fin 16) : (s.setBtnBit i).clock = s.clock := rfl
@[simp] theorem State.setBtnBit_latch (i : Fin 16) : (s.setBtnBit i).latch = s.latch := rfl
@[simp] theorem State.setBtnBit_data (i : Fin 16) : (s.setBtnBit i).data = s.data := rfl
@[simp] theorem State.setBtnBit_pinmap (i : Fin 16) : (s.setBtnBit i).pinmap = s.pinmap := rfl
@[simp] theorem State.setBtnBit_dirClock (i : Fin 16) : (s.setBtnBit i).dirClock = s.dirClock := rfl
@[simp] theorem State.setBtnBit_dirLatch (i : Fin 16) : (s.setBtnBit i).dirLatch = s.dirLatch := rfl
@[simp] theorem State.setBtnBit_dirData (i : Fin 16) : (s.setBtnBit i).dirData = s.dirData := rfl
@[simp] theorem State.setBtnBit_pullupData (i : Fin 16) : (s.setBtnBit i).pullupData = s.pullupData := rfl
@[simp] theorem State.setBtnBit_cfg (i : Fin 16) : (s.setBtnBit i).cfg = s.cfg := rfl
@[simp] theorem State.setBtnBit_busy (i : Fin 16) : (s.setBtnBit i).busy = s.busy := rfl
@[simp] theorem State.setBtnBit_upc (i : Fin 16) : (s.setBtnBit i).upc = s.upc := rfl
@[simp] theorem State.setBtnBit_sv (i : Fin 16) : (s.setBtnBit i).sv = s.sv := rfl
@[simp] theorem State.setBtnBit_x (i : Fin 16) : (s.setBtnBit i).x = s.x := rfl
@[simp] theorem State.setBtnBit_y (i : Fin 16) : (s.setBtnBit i).y = s.y := rfl
@[simp] theorem State.setBtnBit_btn (i : Fin 16) : (s.setBtnBit i).btn = setBit s.btn i := rfl
@[simp] theorem State.setBtnBit_mem (i : Fin 16) : (s.setBtnBit i).mem = s.mem := rfl
@[simp] theorem State.setBtnBit_t (i : Fin 16) : (s.setBtnBit i).t = s.t := rfl
@[simp] theorem State.setBtnBit_tr (i : Fin 16) : (s.setBtnBit i).tr = s.tr := rfl
@[simp] theorem State.setBtnBit_refused (i : Fin 16) : (s.setBtnBit i).refused = s.refused := rfl
@[simp] theorem State.setBtnBit_rom (i : Fin 16) : (s.setBtnBit i).rom = s.rom := rfl
@[simp] theorem State.setBtnBit_env (i : Fin 16) : (s.setBtnBit i).env = s.env := rfl
@[simp] theorem State.setBtnBit_envRest (i : Fin 16) : (s.setBtnBit i).envRest = s.envRest := rfl
@[simp] theorem State.setBtnBit_draws (i : Fin 16) : (s.setBtnBit i).draws = s.draws := rfl
@[simp] theorem State.setBtnBit_calls (i : Fin 16) : (s.setBtnBit i).calls = s.calls := rfl
@[simp] theorem State.setBtnBit_results (i : Fin 16) : (s.setBtnBit i).results = s.results := rfl

/-! ### clearReport -/

@[simp] theorem State.clearReport_clock : (s.clearReport).clock = s.clock := rfl
@[simp] theorem State.clearReport_latch : (s.clearReport).latch = s.latch := rfl
@[simp] theorem State.clearReport_data : (s.clearReport).data = s.data := rfl
@[simp] theorem State.clearReport_pinmap : (s.clearReport).pinmap = s.pinmap := rfl
@[simp] theorem State.clearReport_dirClock : (s.clearReport).dirClock = s.dirClock := rfl
@[simp] theorem State.clearReport_dirLatch : (s.clearReport).dirLatch = s.dirLatch := rfl
@[simp] theorem State.clearReport_dirData : (s.clearReport).dirData = s.dirData := rfl
@[simp] theorem State.clearReport_pullupData : (s.clearReport).pullupData = s.pullupData := rfl
@[simp] theorem State.clearReport_cfg : (s.clearReport).cfg = s.cfg := rfl
@[simp] theorem State.clearReport_busy : (s.clearReport).busy = s.busy := rfl
@[simp] theorem State.clearReport_upc : (s.clearReport).upc = s.upc := rfl
@[simp] theorem State.clearReport_sv : (s.clearReport).sv = Vector.replicate 12 false := rfl
@[simp] theorem State.clearReport_x : (s.clearReport).x = 0 := rfl
@[simp] theorem State.clearReport_y : (s.clearReport).y = 0 := rfl
@[simp] theorem State.clearReport_btn : (s.clearReport).btn = 0 := rfl
@[simp] theorem State.clearReport_mem : (s.clearReport).mem = s.mem := rfl
@[simp] theorem State.clearReport_t : (s.clearReport).t = s.t := rfl
@[simp] theorem State.clearReport_tr : (s.clearReport).tr = s.tr := rfl
@[simp] theorem State.clearReport_refused : (s.clearReport).refused = s.refused := rfl
@[simp] theorem State.clearReport_rom : (s.clearReport).rom = s.rom := rfl
@[simp] theorem State.clearReport_env : (s.clearReport).env = s.env := rfl
@[simp] theorem State.clearReport_envRest : (s.clearReport).envRest = s.envRest := rfl
@[simp] theorem State.clearReport_draws : (s.clearReport).draws = s.draws := rfl
@[simp] theorem State.clearReport_calls : (s.clearReport).calls = s.calls := rfl
@[simp] theorem State.clearReport_results : (s.clearReport).results = s.results := rfl

/-! ### giveResult -/

@[simp] theorem State.giveResult_clock (r : Result) : (s.giveResult r).clock = s.clock := rfl
@[simp] theorem State.giveResult_latch (r : Result) : (s.giveResult r).latch = s.latch := rfl
@[simp] theorem State.giveResult_data (r : Result) : (s.giveResult r).data = s.data := rfl
@[simp] theorem State.giveResult_pinmap (r : Result) : (s.giveResult r).pinmap = s.pinmap := rfl
@[simp] theorem State.giveResult_dirClock (r : Result) : (s.giveResult r).dirClock = s.dirClock := rfl
@[simp] theorem State.giveResult_dirLatch (r : Result) : (s.giveResult r).dirLatch = s.dirLatch := rfl
@[simp] theorem State.giveResult_dirData (r : Result) : (s.giveResult r).dirData = s.dirData := rfl
@[simp] theorem State.giveResult_pullupData (r : Result) : (s.giveResult r).pullupData = s.pullupData := rfl
@[simp] theorem State.giveResult_cfg (r : Result) : (s.giveResult r).cfg = s.cfg := rfl
@[simp] theorem State.giveResult_busy (r : Result) : (s.giveResult r).busy = s.busy := rfl
@[simp] theorem State.giveResult_upc (r : Result) : (s.giveResult r).upc = s.upc := rfl
@[simp] theorem State.giveResult_sv (r : Result) : (s.giveResult r).sv = s.sv := rfl
@[simp] theorem State.giveResult_x (r : Result) : (s.giveResult r).x = s.x := rfl
@[simp] theorem State.giveResult_y (r : Result) : (s.giveResult r).y = s.y := rfl
@[simp] theorem State.giveResult_btn (r : Result) : (s.giveResult r).btn = s.btn := rfl
@[simp] theorem State.giveResult_mem (r : Result) : (s.giveResult r).mem = s.mem := rfl
@[simp] theorem State.giveResult_t (r : Result) : (s.giveResult r).t = s.t := rfl
@[simp] theorem State.giveResult_tr (r : Result) : (s.giveResult r).tr = s.tr := rfl
@[simp] theorem State.giveResult_refused (r : Result) : (s.giveResult r).refused = s.refused := rfl
@[simp] theorem State.giveResult_rom (r : Result) : (s.giveResult r).rom = s.rom := rfl
@[simp] theorem State.giveResult_env (r : Result) : (s.giveResult r).env = s.env := rfl
@[simp] theorem State.giveResult_envRest (r : Result) : (s.giveResult r).envRest = s.envRest := rfl
@[simp] theorem State.giveResult_draws (r : Result) : (s.giveResult r).draws = s.draws := rfl
@[simp] theorem State.giveResult_calls (r : Result) : (s.giveResult r).calls = s.calls := rfl
@[simp] theorem State.giveResult_results (r : Result) : (s.giveResult r).results = s.results ++ [r] := rfl

/-! ### popCall -/

@[simp] theorem State.popCall_clock : (s.popCall).clock = s.clock := rfl
@[simp] theorem State.popCall_latch : (s.popCall).latch = s.latch := rfl
@[simp] theorem State.popCall_data : (s.popCall).data = s.data := rfl
@[simp] theorem State.popCall_pinmap : (s.popCall).pinmap = s.pinmap := rfl
@[simp] theorem State.popCall_dirClock : (s.popCall).dirClock = s.dirClock := rfl
@[simp] theorem State.popCall_dirLatch : (s.popCall).dirLatch = s.dirLatch := rfl
@[simp] theorem State.popCall_dirData : (s.popCall).dirData = s.dirData := rfl
@[simp] theorem State.popCall_pullupData : (s.popCall).pullupData = s.pullupData := rfl
@[simp] theorem State.popCall_cfg : (s.popCall).cfg = s.cfg := rfl
@[simp] theorem State.popCall_busy : (s.popCall).busy = s.busy := rfl
@[simp] theorem State.popCall_upc : (s.popCall).upc = s.upc := rfl
@[simp] theorem State.popCall_sv : (s.popCall).sv = s.sv := rfl
@[simp] theorem State.popCall_x : (s.popCall).x = s.x := rfl
@[simp] theorem State.popCall_y : (s.popCall).y = s.y := rfl
@[simp] theorem State.popCall_btn : (s.popCall).btn = s.btn := rfl
@[simp] theorem State.popCall_mem : (s.popCall).mem = s.mem := rfl
@[simp] theorem State.popCall_t : (s.popCall).t = s.t := rfl
@[simp] theorem State.popCall_tr : (s.popCall).tr = s.tr := rfl
@[simp] theorem State.popCall_refused : (s.popCall).refused = s.refused := rfl
@[simp] theorem State.popCall_rom : (s.popCall).rom = s.rom := rfl
@[simp] theorem State.popCall_env : (s.popCall).env = s.env := rfl
@[simp] theorem State.popCall_envRest : (s.popCall).envRest = s.envRest := rfl
@[simp] theorem State.popCall_draws : (s.popCall).draws = s.draws := rfl
@[simp] theorem State.popCall_calls : (s.popCall).calls = s.calls.tail := rfl
@[simp] theorem State.popCall_results : (s.popCall).results = s.results := rfl

/-! ### markRefused -/

@[simp] theorem State.markRefused_clock : (s.markRefused).clock = s.clock := rfl
@[simp] theorem State.markRefused_latch : (s.markRefused).latch = s.latch := rfl
@[simp] theorem State.markRefused_data : (s.markRefused).data = s.data := rfl
@[simp] theorem State.markRefused_pinmap : (s.markRefused).pinmap = s.pinmap := rfl
@[simp] theorem State.markRefused_dirClock : (s.markRefused).dirClock = s.dirClock := rfl
@[simp] theorem State.markRefused_dirLatch : (s.markRefused).dirLatch = s.dirLatch := rfl
@[simp] theorem State.markRefused_dirData : (s.markRefused).dirData = s.dirData := rfl
@[simp] theorem State.markRefused_pullupData : (s.markRefused).pullupData = s.pullupData := rfl
@[simp] theorem State.markRefused_cfg : (s.markRefused).cfg = s.cfg := rfl
@[simp] theorem State.markRefused_busy : (s.markRefused).busy = s.busy := rfl
@[simp] theorem State.markRefused_upc : (s.markRefused).upc = s.upc := rfl
@[simp] theorem State.markRefused_sv : (s.markRefused).sv = s.sv := rfl
@[simp] theorem State.markRefused_x : (s.markRefused).x = s.x := rfl
@[simp] theorem State.markRefused_y : (s.markRefused).y = s.y := rfl
@[simp] theorem State.markRefused_btn : (s.markRefused).btn = s.btn := rfl
@[simp] theorem State.markRefused_mem : (s.markRefused).mem = s.mem := rfl
@[simp] theorem State.markRefused_t : (s.markRefused).t = s.t := rfl
@[simp] theorem State.markRefused_tr : (s.markRefused).tr = s.tr := rfl
@[simp] theorem State.markRefused_refused : (s.markRefused).refused = true := rfl
@[simp] theorem State.markRefused_rom : (s.markRefused).rom = s.rom := rfl
@[simp] theorem State.markRefused_env : (s.markRefused).env = s.env := rfl
@[simp] theorem State.markRefused_envRest : (s.markRefused).envRest = s.envRest := rfl
@[simp] theorem State.markRefused_draws : (s.markRefused).draws = s.draws := rfl
@[simp] theorem State.markRefused_calls : (s.markRefused).calls = s.calls := rfl
@[simp] theorem State.markRefused_results : (s.markRefused).results = s.results := rfl

/-! ### writeByte -/

@[simp] theorem State.writeByte_clock (a : Fin 4) (b : Byte) : (s.writeByte a b).clock = s.clock := rfl
@[simp] theorem State.writeByte_latch (a : Fin 4) (b : Byte) : (s.writeByte a b).latch = s.latch := rfl
@[simp] theorem State.writeByte_data (a : Fin 4) (b : Byte) : (s.writeByte a b).data = s.data := rfl
@[simp] theorem State.writeByte_pinmap (a : Fin 4) (b : Byte) : (s.writeByte a b).pinmap = s.pinmap := rfl
@[simp] theorem State.writeByte_dirClock (a : Fin 4) (b : Byte) : (s.writeByte a b).dirClock = s.dirClock := rfl
@[simp] theorem State.writeByte_dirLatch (a : Fin 4) (b : Byte) : (s.writeByte a b).dirLatch = s.dirLatch := rfl
@[simp] theorem State.writeByte_dirData (a : Fin 4) (b : Byte) : (s.writeByte a b).dirData = s.dirData := rfl
@[simp] theorem State.writeByte_pullupData (a : Fin 4) (b : Byte) : (s.writeByte a b).pullupData = s.pullupData := rfl
@[simp] theorem State.writeByte_cfg (a : Fin 4) (b : Byte) : (s.writeByte a b).cfg = s.cfg := rfl
@[simp] theorem State.writeByte_busy (a : Fin 4) (b : Byte) : (s.writeByte a b).busy = s.busy := rfl
@[simp] theorem State.writeByte_upc (a : Fin 4) (b : Byte) : (s.writeByte a b).upc = s.upc := rfl
@[simp] theorem State.writeByte_sv (a : Fin 4) (b : Byte) : (s.writeByte a b).sv = s.sv := rfl
@[simp] theorem State.writeByte_x (a : Fin 4) (b : Byte) : (s.writeByte a b).x = s.x := rfl
@[simp] theorem State.writeByte_y (a : Fin 4) (b : Byte) : (s.writeByte a b).y = s.y := rfl
@[simp] theorem State.writeByte_btn (a : Fin 4) (b : Byte) : (s.writeByte a b).btn = s.btn := rfl
@[simp] theorem State.writeByte_mem (a : Fin 4) (b : Byte) : (s.writeByte a b).mem = Memory.write s.mem a.val b := rfl
@[simp] theorem State.writeByte_t (a : Fin 4) (b : Byte) : (s.writeByte a b).t = s.t := rfl
@[simp] theorem State.writeByte_tr (a : Fin 4) (b : Byte) : (s.writeByte a b).tr = s.tr := rfl
@[simp] theorem State.writeByte_refused (a : Fin 4) (b : Byte) : (s.writeByte a b).refused = s.refused := rfl
@[simp] theorem State.writeByte_rom (a : Fin 4) (b : Byte) : (s.writeByte a b).rom = s.rom := rfl
@[simp] theorem State.writeByte_env (a : Fin 4) (b : Byte) : (s.writeByte a b).env = s.env := rfl
@[simp] theorem State.writeByte_envRest (a : Fin 4) (b : Byte) : (s.writeByte a b).envRest = s.envRest := rfl
@[simp] theorem State.writeByte_draws (a : Fin 4) (b : Byte) : (s.writeByte a b).draws = s.draws := rfl
@[simp] theorem State.writeByte_calls (a : Fin 4) (b : Byte) : (s.writeByte a b).calls = s.calls := rfl
@[simp] theorem State.writeByte_results (a : Fin 4) (b : Byte) : (s.writeByte a b).results = s.results := rfl

/-! ### envMove -/

@[simp] theorem State.envMove_clock : (s.envMove).clock = s.clock := rfl
@[simp] theorem State.envMove_latch : (s.envMove).latch = s.latch := rfl
@[simp] theorem State.envMove_data : (s.envMove).data = (List.range s.pinmap.nData).map s.comingLevel := rfl
@[simp] theorem State.envMove_pinmap : (s.envMove).pinmap = s.pinmap := rfl
@[simp] theorem State.envMove_dirClock : (s.envMove).dirClock = s.dirClock := rfl
@[simp] theorem State.envMove_dirLatch : (s.envMove).dirLatch = s.dirLatch := rfl
@[simp] theorem State.envMove_dirData : (s.envMove).dirData = s.dirData := rfl
@[simp] theorem State.envMove_pullupData : (s.envMove).pullupData = s.pullupData := rfl
@[simp] theorem State.envMove_cfg : (s.envMove).cfg = s.cfg := rfl
@[simp] theorem State.envMove_busy : (s.envMove).busy = s.busy := rfl
@[simp] theorem State.envMove_upc : (s.envMove).upc = s.upc := rfl
@[simp] theorem State.envMove_sv : (s.envMove).sv = s.sv := rfl
@[simp] theorem State.envMove_x : (s.envMove).x = s.x := rfl
@[simp] theorem State.envMove_y : (s.envMove).y = s.y := rfl
@[simp] theorem State.envMove_btn : (s.envMove).btn = s.btn := rfl
@[simp] theorem State.envMove_mem : (s.envMove).mem = s.mem := rfl
@[simp] theorem State.envMove_t : (s.envMove).t = s.t := rfl
@[simp] theorem State.envMove_tr : (s.envMove).tr = s.tr := rfl
@[simp] theorem State.envMove_refused : (s.envMove).refused = s.refused := rfl
@[simp] theorem State.envMove_rom : (s.envMove).rom = s.rom := rfl
@[simp] theorem State.envMove_env : (s.envMove).env = s.env.tail := rfl
@[simp] theorem State.envMove_envRest : (s.envMove).envRest = s.envRest := rfl
@[simp] theorem State.envMove_draws : (s.envMove).draws = s.draws + 1 := rfl
@[simp] theorem State.envMove_calls : (s.envMove).calls = s.calls := rfl
@[simp] theorem State.envMove_results : (s.envMove).results = s.results := rfl

/-! ### withDataIn -/

@[simp] theorem State.withDataIn_clock (vs : List Level) : (s.withDataIn vs).clock = s.clock := rfl
@[simp] theorem State.withDataIn_latch (vs : List Level) : (s.withDataIn vs).latch = s.latch := rfl
@[simp] theorem State.withDataIn_data (vs : List Level) : (s.withDataIn vs).data = vs := rfl
@[simp] theorem State.withDataIn_pinmap (vs : List Level) : (s.withDataIn vs).pinmap = s.pinmap := rfl
@[simp] theorem State.withDataIn_dirClock (vs : List Level) : (s.withDataIn vs).dirClock = s.dirClock := rfl
@[simp] theorem State.withDataIn_dirLatch (vs : List Level) : (s.withDataIn vs).dirLatch = s.dirLatch := rfl
@[simp] theorem State.withDataIn_dirData (vs : List Level) : (s.withDataIn vs).dirData = s.dirData := rfl
@[simp] theorem State.withDataIn_pullupData (vs : List Level) : (s.withDataIn vs).pullupData = s.pullupData := rfl
@[simp] theorem State.withDataIn_cfg (vs : List Level) : (s.withDataIn vs).cfg = s.cfg := rfl
@[simp] theorem State.withDataIn_busy (vs : List Level) : (s.withDataIn vs).busy = s.busy := rfl
@[simp] theorem State.withDataIn_upc (vs : List Level) : (s.withDataIn vs).upc = s.upc := rfl
@[simp] theorem State.withDataIn_sv (vs : List Level) : (s.withDataIn vs).sv = s.sv := rfl
@[simp] theorem State.withDataIn_x (vs : List Level) : (s.withDataIn vs).x = s.x := rfl
@[simp] theorem State.withDataIn_y (vs : List Level) : (s.withDataIn vs).y = s.y := rfl
@[simp] theorem State.withDataIn_btn (vs : List Level) : (s.withDataIn vs).btn = s.btn := rfl
@[simp] theorem State.withDataIn_mem (vs : List Level) : (s.withDataIn vs).mem = s.mem := rfl
@[simp] theorem State.withDataIn_t (vs : List Level) : (s.withDataIn vs).t = s.t := rfl
@[simp] theorem State.withDataIn_tr (vs : List Level) : (s.withDataIn vs).tr = s.tr := rfl
@[simp] theorem State.withDataIn_refused (vs : List Level) : (s.withDataIn vs).refused = s.refused := rfl
@[simp] theorem State.withDataIn_rom (vs : List Level) : (s.withDataIn vs).rom = s.rom := rfl
@[simp] theorem State.withDataIn_env (vs : List Level) : (s.withDataIn vs).env = [vs.map .drive] := rfl
@[simp] theorem State.withDataIn_envRest (vs : List Level) : (s.withDataIn vs).envRest = s.envRest := rfl
@[simp] theorem State.withDataIn_draws (vs : List Level) : (s.withDataIn vs).draws = s.draws := rfl
@[simp] theorem State.withDataIn_calls (vs : List Level) : (s.withDataIn vs).calls = s.calls := rfl
@[simp] theorem State.withDataIn_results (vs : List Level) : (s.withDataIn vs).results = s.results := rfl

/-! ### configureLines -/

@[simp] theorem State.configureLines_clock (m : PinMap) : (s.configureLines m).clock = .low := rfl
@[simp] theorem State.configureLines_latch (m : PinMap) : (s.configureLines m).latch = .low := rfl
@[simp] theorem State.configureLines_data (m : PinMap) : (s.configureLines m).data = (List.range m.nData).map s.freeLevel := rfl
@[simp] theorem State.configureLines_pinmap (m : PinMap) : (s.configureLines m).pinmap = m := rfl
@[simp] theorem State.configureLines_dirClock (m : PinMap) : (s.configureLines m).dirClock = .output := rfl
@[simp] theorem State.configureLines_dirLatch (m : PinMap) : (s.configureLines m).dirLatch = .output := rfl
@[simp] theorem State.configureLines_dirData (m : PinMap) : (s.configureLines m).dirData = List.replicate m.nData .input := rfl
@[simp] theorem State.configureLines_pullupData (m : PinMap) : (s.configureLines m).pullupData = List.replicate m.nData .enabled := rfl
@[simp] theorem State.configureLines_cfg (m : PinMap) : (s.configureLines m).cfg = true := rfl
@[simp] theorem State.configureLines_busy (m : PinMap) : (s.configureLines m).busy = false := rfl
@[simp] theorem State.configureLines_upc (m : PinMap) : (s.configureLines m).upc = s.upc := rfl
@[simp] theorem State.configureLines_sv (m : PinMap) : (s.configureLines m).sv = s.sv := rfl
@[simp] theorem State.configureLines_x (m : PinMap) : (s.configureLines m).x = s.x := rfl
@[simp] theorem State.configureLines_y (m : PinMap) : (s.configureLines m).y = s.y := rfl
@[simp] theorem State.configureLines_btn (m : PinMap) : (s.configureLines m).btn = s.btn := rfl
@[simp] theorem State.configureLines_mem (m : PinMap) : (s.configureLines m).mem = s.mem := rfl
@[simp] theorem State.configureLines_t (m : PinMap) : (s.configureLines m).t = s.t := rfl
@[simp] theorem State.configureLines_tr (m : PinMap) : (s.configureLines m).tr = s.tr := rfl
@[simp] theorem State.configureLines_refused (m : PinMap) : (s.configureLines m).refused = s.refused := rfl
@[simp] theorem State.configureLines_rom (m : PinMap) : (s.configureLines m).rom = s.rom := rfl
@[simp] theorem State.configureLines_env (m : PinMap) : (s.configureLines m).env = s.env := rfl
@[simp] theorem State.configureLines_envRest (m : PinMap) : (s.configureLines m).envRest = s.envRest := rfl
@[simp] theorem State.configureLines_draws (m : PinMap) : (s.configureLines m).draws = s.draws + 1 := rfl
@[simp] theorem State.configureLines_calls (m : PinMap) : (s.configureLines m).calls = s.calls := rfl
@[simp] theorem State.configureLines_results (m : PinMap) : (s.configureLines m).results = s.results := rfl

/-! ### Composed operations: the fields they leave alone -/

@[simp] theorem State.writeMask_clock (v : BitVec 16) : (s.writeMask v).clock = s.clock := rfl
@[simp] theorem State.writeMask_latch (v : BitVec 16) : (s.writeMask v).latch = s.latch := rfl
@[simp] theorem State.writeMask_data (v : BitVec 16) : (s.writeMask v).data = s.data := rfl
@[simp] theorem State.writeMask_pinmap (v : BitVec 16) : (s.writeMask v).pinmap = s.pinmap := rfl
@[simp] theorem State.writeMask_dirClock (v : BitVec 16) : (s.writeMask v).dirClock = s.dirClock := rfl
@[simp] theorem State.writeMask_dirLatch (v : BitVec 16) : (s.writeMask v).dirLatch = s.dirLatch := rfl
@[simp] theorem State.writeMask_dirData (v : BitVec 16) : (s.writeMask v).dirData = s.dirData := rfl
@[simp] theorem State.writeMask_pullupData (v : BitVec 16) : (s.writeMask v).pullupData = s.pullupData := rfl
@[simp] theorem State.writeMask_cfg (v : BitVec 16) : (s.writeMask v).cfg = s.cfg := rfl
@[simp] theorem State.writeMask_busy (v : BitVec 16) : (s.writeMask v).busy = s.busy := rfl
@[simp] theorem State.writeMask_upc (v : BitVec 16) : (s.writeMask v).upc = s.upc := rfl
@[simp] theorem State.writeMask_sv (v : BitVec 16) : (s.writeMask v).sv = s.sv := rfl
@[simp] theorem State.writeMask_x (v : BitVec 16) : (s.writeMask v).x = s.x := rfl
@[simp] theorem State.writeMask_y (v : BitVec 16) : (s.writeMask v).y = s.y := rfl
@[simp] theorem State.writeMask_btn (v : BitVec 16) : (s.writeMask v).btn = s.btn := rfl
@[simp] theorem State.writeMask_t (v : BitVec 16) : (s.writeMask v).t = s.t := rfl
@[simp] theorem State.writeMask_tr (v : BitVec 16) : (s.writeMask v).tr = s.tr := rfl
@[simp] theorem State.writeMask_refused (v : BitVec 16) : (s.writeMask v).refused = s.refused := rfl
@[simp] theorem State.writeMask_rom (v : BitVec 16) : (s.writeMask v).rom = s.rom := rfl
@[simp] theorem State.writeMask_env (v : BitVec 16) : (s.writeMask v).env = s.env := rfl
@[simp] theorem State.writeMask_envRest (v : BitVec 16) : (s.writeMask v).envRest = s.envRest := rfl
@[simp] theorem State.writeMask_draws (v : BitVec 16) : (s.writeMask v).draws = s.draws := rfl
@[simp] theorem State.writeMask_calls (v : BitVec 16) : (s.writeMask v).calls = s.calls := rfl
@[simp] theorem State.writeMask_results (v : BitVec 16) : (s.writeMask v).results = s.results := rfl

@[simp] theorem State.serialized_clock : (s.serialized).clock = s.clock := rfl
@[simp] theorem State.serialized_latch : (s.serialized).latch = s.latch := rfl
@[simp] theorem State.serialized_data : (s.serialized).data = s.data := rfl
@[simp] theorem State.serialized_pinmap : (s.serialized).pinmap = s.pinmap := rfl
@[simp] theorem State.serialized_dirClock : (s.serialized).dirClock = s.dirClock := rfl
@[simp] theorem State.serialized_dirLatch : (s.serialized).dirLatch = s.dirLatch := rfl
@[simp] theorem State.serialized_dirData : (s.serialized).dirData = s.dirData := rfl
@[simp] theorem State.serialized_pullupData : (s.serialized).pullupData = s.pullupData := rfl
@[simp] theorem State.serialized_cfg : (s.serialized).cfg = s.cfg := rfl
@[simp] theorem State.serialized_busy : (s.serialized).busy = s.busy := rfl
@[simp] theorem State.serialized_upc : (s.serialized).upc = s.upc := rfl
@[simp] theorem State.serialized_sv : (s.serialized).sv = s.sv := rfl
@[simp] theorem State.serialized_x : (s.serialized).x = s.x := rfl
@[simp] theorem State.serialized_y : (s.serialized).y = s.y := rfl
@[simp] theorem State.serialized_btn : (s.serialized).btn = s.btn := rfl
@[simp] theorem State.serialized_t : (s.serialized).t = s.t := rfl
@[simp] theorem State.serialized_tr : (s.serialized).tr = s.tr := rfl
@[simp] theorem State.serialized_refused : (s.serialized).refused = s.refused := rfl
@[simp] theorem State.serialized_rom : (s.serialized).rom = s.rom := rfl
@[simp] theorem State.serialized_env : (s.serialized).env = s.env := rfl
@[simp] theorem State.serialized_envRest : (s.serialized).envRest = s.envRest := rfl
@[simp] theorem State.serialized_draws : (s.serialized).draws = s.draws := rfl
@[simp] theorem State.serialized_calls : (s.serialized).calls = s.calls := rfl
@[simp] theorem State.serialized_results : (s.serialized).results = s.results := rfl

@[simp] theorem State.afterRead_clock : (s.afterRead).clock = s.clock := rfl
@[simp] theorem State.afterRead_latch : (s.afterRead).latch = s.latch := rfl
@[simp] theorem State.afterRead_pinmap : (s.afterRead).pinmap = s.pinmap := rfl
@[simp] theorem State.afterRead_dirClock : (s.afterRead).dirClock = s.dirClock := rfl
@[simp] theorem State.afterRead_dirLatch : (s.afterRead).dirLatch = s.dirLatch := rfl
@[simp] theorem State.afterRead_dirData : (s.afterRead).dirData = s.dirData := rfl
@[simp] theorem State.afterRead_pullupData : (s.afterRead).pullupData = s.pullupData := rfl
@[simp] theorem State.afterRead_cfg : (s.afterRead).cfg = s.cfg := rfl
@[simp] theorem State.afterRead_busy : (s.afterRead).busy = s.busy := rfl
@[simp] theorem State.afterRead_upc : (s.afterRead).upc = s.upc := rfl
@[simp] theorem State.afterRead_sv : (s.afterRead).sv = s.sv := rfl
@[simp] theorem State.afterRead_x : (s.afterRead).x = s.x := rfl
@[simp] theorem State.afterRead_y : (s.afterRead).y = s.y := rfl
@[simp] theorem State.afterRead_btn : (s.afterRead).btn = s.btn := rfl
@[simp] theorem State.afterRead_mem : (s.afterRead).mem = s.mem := rfl
@[simp] theorem State.afterRead_t : (s.afterRead).t = s.t := rfl
@[simp] theorem State.afterRead_refused : (s.afterRead).refused = s.refused := rfl
@[simp] theorem State.afterRead_rom : (s.afterRead).rom = s.rom := rfl
@[simp] theorem State.afterRead_envRest : (s.afterRead).envRest = s.envRest := rfl
@[simp] theorem State.afterRead_calls : (s.afterRead).calls = s.calls := rfl
@[simp] theorem State.afterRead_results : (s.afterRead).results = s.results := rfl

@[simp] theorem State.applyEffect_clock (e : Effect) : (s.applyEffect e).clock = s.clock := by cases e <;> rfl
@[simp] theorem State.applyEffect_latch (e : Effect) : (s.applyEffect e).latch = s.latch := by cases e <;> rfl
@[simp] theorem State.applyEffect_data (e : Effect) : (s.applyEffect e).data = s.data := by cases e <;> rfl
@[simp] theorem State.applyEffect_pinmap (e : Effect) : (s.applyEffect e).pinmap = s.pinmap := by cases e <;> rfl
@[simp] theorem State.applyEffect_dirClock (e : Effect) : (s.applyEffect e).dirClock = s.dirClock := by cases e <;> rfl
@[simp] theorem State.applyEffect_dirLatch (e : Effect) : (s.applyEffect e).dirLatch = s.dirLatch := by cases e <;> rfl
@[simp] theorem State.applyEffect_dirData (e : Effect) : (s.applyEffect e).dirData = s.dirData := by cases e <;> rfl
@[simp] theorem State.applyEffect_pullupData (e : Effect) : (s.applyEffect e).pullupData = s.pullupData := by cases e <;> rfl
@[simp] theorem State.applyEffect_cfg (e : Effect) : (s.applyEffect e).cfg = s.cfg := by cases e <;> rfl
@[simp] theorem State.applyEffect_busy (e : Effect) : (s.applyEffect e).busy = s.busy := by cases e <;> rfl
@[simp] theorem State.applyEffect_upc (e : Effect) : (s.applyEffect e).upc = s.upc := by cases e <;> rfl
@[simp] theorem State.applyEffect_sv (e : Effect) : (s.applyEffect e).sv = s.sv := by cases e <;> rfl
@[simp] theorem State.applyEffect_mem (e : Effect) : (s.applyEffect e).mem = s.mem := by cases e <;> rfl
@[simp] theorem State.applyEffect_t (e : Effect) : (s.applyEffect e).t = s.t := by cases e <;> rfl
@[simp] theorem State.applyEffect_tr (e : Effect) : (s.applyEffect e).tr = s.tr := by cases e <;> rfl
@[simp] theorem State.applyEffect_refused (e : Effect) : (s.applyEffect e).refused = s.refused := by cases e <;> rfl
@[simp] theorem State.applyEffect_rom (e : Effect) : (s.applyEffect e).rom = s.rom := by cases e <;> rfl
@[simp] theorem State.applyEffect_env (e : Effect) : (s.applyEffect e).env = s.env := by cases e <;> rfl
@[simp] theorem State.applyEffect_envRest (e : Effect) : (s.applyEffect e).envRest = s.envRest := by cases e <;> rfl
@[simp] theorem State.applyEffect_draws (e : Effect) : (s.applyEffect e).draws = s.draws := by cases e <;> rfl
@[simp] theorem State.applyEffect_calls (e : Effect) : (s.applyEffect e).calls = s.calls := by cases e <;> rfl
@[simp] theorem State.applyEffect_results (e : Effect) : (s.applyEffect e).results = s.results := by cases e <;> rfl

@[simp] theorem State.effectAt_clock (p : Fin 12) (b : Bool) : (s.effectAt p b).clock = s.clock := by
  cases b <;> simp [State.effectAt]
@[simp] theorem State.effectAt_latch (p : Fin 12) (b : Bool) : (s.effectAt p b).latch = s.latch := by
  cases b <;> simp [State.effectAt]
@[simp] theorem State.effectAt_data (p : Fin 12) (b : Bool) : (s.effectAt p b).data = s.data := by
  cases b <;> simp [State.effectAt]
@[simp] theorem State.effectAt_pinmap (p : Fin 12) (b : Bool) : (s.effectAt p b).pinmap = s.pinmap := by
  cases b <;> simp [State.effectAt]
@[simp] theorem State.effectAt_dirClock (p : Fin 12) (b : Bool) : (s.effectAt p b).dirClock = s.dirClock := by
  cases b <;> simp [State.effectAt]
@[simp] theorem State.effectAt_dirLatch (p : Fin 12) (b : Bool) : (s.effectAt p b).dirLatch = s.dirLatch := by
  cases b <;> simp [State.effectAt]
@[simp] theorem State.effectAt_dirData (p : Fin 12) (b : Bool) : (s.effectAt p b).dirData = s.dirData := by
  cases b <;> simp [State.effectAt]
@[simp] theorem State.effectAt_pullupData (p : Fin 12) (b : Bool) : (s.effectAt p b).pullupData = s.pullupData := by
  cases b <;> simp [State.effectAt]
@[simp] theorem State.effectAt_cfg (p : Fin 12) (b : Bool) : (s.effectAt p b).cfg = s.cfg := by
  cases b <;> simp [State.effectAt]
@[simp] theorem State.effectAt_busy (p : Fin 12) (b : Bool) : (s.effectAt p b).busy = s.busy := by
  cases b <;> simp [State.effectAt]
@[simp] theorem State.effectAt_upc (p : Fin 12) (b : Bool) : (s.effectAt p b).upc = s.upc := by
  cases b <;> simp [State.effectAt]
@[simp] theorem State.effectAt_sv (p : Fin 12) (b : Bool) : (s.effectAt p b).sv = s.sv := by
  cases b <;> simp [State.effectAt]
@[simp] theorem State.effectAt_mem (p : Fin 12) (b : Bool) : (s.effectAt p b).mem = s.mem := by
  cases b <;> simp [State.effectAt]
@[simp] theorem State.effectAt_t (p : Fin 12) (b : Bool) : (s.effectAt p b).t = s.t := by
  cases b <;> simp [State.effectAt]
@[simp] theorem State.effectAt_tr (p : Fin 12) (b : Bool) : (s.effectAt p b).tr = s.tr := by
  cases b <;> simp [State.effectAt]
@[simp] theorem State.effectAt_refused (p : Fin 12) (b : Bool) : (s.effectAt p b).refused = s.refused := by
  cases b <;> simp [State.effectAt]
@[simp] theorem State.effectAt_rom (p : Fin 12) (b : Bool) : (s.effectAt p b).rom = s.rom := by
  cases b <;> simp [State.effectAt]
@[simp] theorem State.effectAt_env (p : Fin 12) (b : Bool) : (s.effectAt p b).env = s.env := by
  cases b <;> simp [State.effectAt]
@[simp] theorem State.effectAt_envRest (p : Fin 12) (b : Bool) : (s.effectAt p b).envRest = s.envRest := by
  cases b <;> simp [State.effectAt]
@[simp] theorem State.effectAt_draws (p : Fin 12) (b : Bool) : (s.effectAt p b).draws = s.draws := by
  cases b <;> simp [State.effectAt]
@[simp] theorem State.effectAt_calls (p : Fin 12) (b : Bool) : (s.effectAt p b).calls = s.calls := by
  cases b <;> simp [State.effectAt]
@[simp] theorem State.effectAt_results (p : Fin 12) (b : Bool) : (s.effectAt p b).results = s.results := by
  cases b <;> simp [State.effectAt]

@[simp] theorem State.stepIndex_clock (c : Setting) : (s.stepIndex c).clock = s.clock := by cases c <;> rfl
@[simp] theorem State.stepIndex_latch (c : Setting) : (s.stepIndex c).latch = s.latch := by cases c <;> rfl
@[simp] theorem State.stepIndex_data (c : Setting) : (s.stepIndex c).data = s.data := by cases c <;> rfl
@[simp] theorem State.stepIndex_pinmap (c : Setting) : (s.stepIndex c).pinmap = s.pinmap := by cases c <;> rfl
@[simp] theorem State.stepIndex_dirClock (c : Setting) : (s.stepIndex c).dirClock = s.dirClock := by cases c <;> rfl
@[simp] theorem State.stepIndex_dirLatch (c : Setting) : (s.stepIndex c).dirLatch = s.dirLatch := by cases c <;> rfl
@[simp] theorem State.stepIndex_dirData (c : Setting) : (s.stepIndex c).dirData = s.dirData := by cases c <;> rfl
@[simp] theorem State.stepIndex_pullupData (c : Setting) : (s.stepIndex c).pullupData = s.pullupData := by cases c <;> rfl
@[simp] theorem State.stepIndex_cfg (c : Setting) : (s.stepIndex c).cfg = s.cfg := by cases c <;> rfl
@[simp] theorem State.stepIndex_busy (c : Setting) : (s.stepIndex c).busy = s.busy := by cases c <;> rfl
@[simp] theorem State.stepIndex_sv (c : Setting) : (s.stepIndex c).sv = s.sv := by cases c <;> rfl
@[simp] theorem State.stepIndex_x (c : Setting) : (s.stepIndex c).x = s.x := by cases c <;> rfl
@[simp] theorem State.stepIndex_y (c : Setting) : (s.stepIndex c).y = s.y := by cases c <;> rfl
@[simp] theorem State.stepIndex_btn (c : Setting) : (s.stepIndex c).btn = s.btn := by cases c <;> rfl
@[simp] theorem State.stepIndex_mem (c : Setting) : (s.stepIndex c).mem = s.mem := by cases c <;> rfl
@[simp] theorem State.stepIndex_t (c : Setting) : (s.stepIndex c).t = s.t := by cases c <;> rfl
@[simp] theorem State.stepIndex_tr (c : Setting) : (s.stepIndex c).tr = s.tr := by cases c <;> rfl
@[simp] theorem State.stepIndex_refused (c : Setting) : (s.stepIndex c).refused = s.refused := by cases c <;> rfl
@[simp] theorem State.stepIndex_rom (c : Setting) : (s.stepIndex c).rom = s.rom := by cases c <;> rfl
@[simp] theorem State.stepIndex_env (c : Setting) : (s.stepIndex c).env = s.env := by cases c <;> rfl
@[simp] theorem State.stepIndex_envRest (c : Setting) : (s.stepIndex c).envRest = s.envRest := by cases c <;> rfl
@[simp] theorem State.stepIndex_draws (c : Setting) : (s.stepIndex c).draws = s.draws := by cases c <;> rfl
@[simp] theorem State.stepIndex_calls (c : Setting) : (s.stepIndex c).calls = s.calls := by cases c <;> rfl
@[simp] theorem State.stepIndex_results (c : Setting) : (s.stepIndex c).results = s.results := by cases c <;> rfl

@[simp] theorem State.stepIndex_micro : s.stepIndex .micro = s.advance := rfl
@[simp] theorem State.stepIndex_direct : s.stepIndex .direct = s := rfl

end Sys2Proof.Machine
end

