-- ==== Sys2Proof/Laws/Memory.lean ====
section
/-! SUPPORT. The report buffer: reading after writing, and the canonical form that every write keeps. -/

namespace Sys2Proof.Machine

@[simp] theorem Memory.read_write_self (m : Memory) (a : Nat) (b : Byte) : Memory.read (Memory.write m a b) a = some b := by
  induction m with
  | nil => simp [Memory.write, Memory.read]
  | cons c m ih =>
    simp only [Memory.write]
    split
    · simp [Memory.read]
    · split
      · simp [Memory.read]
      · next h => simp [Memory.read, Ne.symm h, ih]

theorem Memory.read_write_other (m : Memory) {a a' : Nat} (b : Byte) (h : a' ≠ a) :
    Memory.read (Memory.write m a b) a' = Memory.read m a' := by
  induction m with
  | nil => simp [Memory.write, Memory.read, Ne.symm h]
  | cons c m ih =>
    simp only [Memory.write]
    split
    · simp [Memory.read, Ne.symm h]
    · split
      · next e => simp [Memory.read, Ne.symm h, ← e]
      · simp [Memory.read, ih]

/-- The first offset of a written buffer is the offset written or the old first one. -/
theorem Memory.write_head (m : Memory) (a : Nat) (b : Byte) :
    ∃ c m', Memory.write m a b = c :: m' ∧ (c.1 = a ∨ ∃ d m'', m = d :: m'' ∧ c.1 = d.1) := by
  cases m with
  | nil => exact ⟨_, _, rfl, .inl rfl⟩
  | cons d m =>
    simp only [Memory.write]
    split
    · exact ⟨_, _, rfl, .inl rfl⟩
    · split
      · exact ⟨_, _, rfl, .inl rfl⟩
      · exact ⟨_, _, rfl, .inr ⟨d, m, rfl, rfl⟩⟩

theorem Memory.wf_cons {c : Host.Cell} {m : Memory} (hc : c.1 < 4) (hm : Memory.wf m = true)
    (h : ∀ d m', m = d :: m' → c.1 < d.1) : Memory.wf (c :: m) = true := by
  cases m with
  | nil => simpa [Memory.wf] using hc
  | cons d m => simpa [Memory.wf, h d m rfl] using hm

theorem Memory.wf_tail {c : Host.Cell} {m : Memory} (h : Memory.wf (c :: m) = true) : Memory.wf m = true := by
  cases m with
  | nil => rfl
  | cons d m => simp [Memory.wf] at h; exact h.2

theorem Memory.wf_head_lt {c d : Host.Cell} {m : Memory} (h : Memory.wf (c :: d :: m) = true) : c.1 < d.1 := by
  simp [Memory.wf] at h; exact h.1

theorem Memory.wf_head_bound {m : Memory} {c : Host.Cell} (h : Memory.wf (c :: m) = true) : c.1 < 4 := by
  induction m generalizing c with
  | nil => simpa [Memory.wf] using h
  | cons d m ih => exact Nat.lt_trans (Memory.wf_head_lt h) (ih (Memory.wf_tail h))

/-- Every write inside the buffer keeps the canonical form. -/
theorem Memory.wf_write {m : Memory} {a : Nat} (b : Byte) (ha : a < 4) (h : Memory.wf m = true) :
    Memory.wf (Memory.write m a b) = true := by
  induction m with
  | nil => simpa [Memory.write, Memory.wf] using ha
  | cons c m ih =>
    simp only [Memory.write]
    split
    · next hlt => exact Memory.wf_cons ha h (by rintro d m' ⟨rfl, rfl⟩; exact hlt)
    · split
      · next e =>
        refine Memory.wf_cons ha (Memory.wf_tail h) ?_
        rintro d m' rfl
        exact e ▸ Memory.wf_head_lt h
      · next hlt hne =>
        refine Memory.wf_cons (Memory.wf_head_bound h) (ih (Memory.wf_tail h)) ?_
        rintro d m' he
        obtain ⟨c', m'', hw, hc⟩ := Memory.write_head m a b
        rw [hw] at he
        obtain ⟨rfl, rfl⟩ := List.cons.inj he
        rcases hc with hc | ⟨d, m3, rfl, hc⟩
        · omega
        · rw [hc]; exact Memory.wf_head_lt h

theorem State.wf_writeByte {s : State} (a : Fin 4) (b : Byte) (h : Memory.wf s.mem = true) :
    Memory.wf (s.writeByte a b).mem = true := Memory.wf_write b a.isLt h

theorem State.wf_serialized {s : State} (h : Memory.wf s.mem = true) : Memory.wf s.serialized.mem = true :=
  State.wf_writeByte _ _ (State.wf_writeByte _ _ (State.wf_writeByte _ _ (State.wf_writeByte _ _ h)))

theorem reset_memory_wf : Memory.wf State.reset.mem = true := rfl

/-! ### What SERIALIZE leaves in the buffer (42_report_builder.md R167) -/

section
variable (s : State)

@[simp] theorem State.readByte_writeByte_self (a : Fin 4) (b : Byte) : (s.writeByte a b).readByte a.val = some b :=
  Memory.read_write_self _ _ _

theorem State.readByte_writeByte_other (a : Fin 4) (b : Byte) {k : Nat} (h : k ≠ a.val) :
    (s.writeByte a b).readByte k = s.readByte k := Memory.read_write_other _ _ h

@[simp] theorem State.serialized_read0 : s.serialized.readByte 0 = some s.x := by
  simp [State.serialized, State.writeMask, State.readByte, Memory.read_write_other]

@[simp] theorem State.serialized_read1 : s.serialized.readByte 1 = some s.y := by
  simp [State.serialized, State.writeMask, State.readByte, Memory.read_write_other]

@[simp] theorem State.serialized_read2 : s.serialized.readByte 2 = some (s.btn.extractLsb' 0 8) := by
  simp [State.serialized, State.writeMask, State.readByte, Memory.read_write_other]

@[simp] theorem State.serialized_read3 : s.serialized.readByte 3 = some (s.btn.extractLsb' 8 8) := by
  simp [State.serialized, State.writeMask, State.readByte]

theorem State.serialized_read_outside {k : Nat} (h : 4 ≤ k) : s.serialized.readByte k = s.readByte k := by
  simp only [State.serialized, State.writeMask, State.readByte, State.writeByte_mem]
  rw [Memory.read_write_other, Memory.read_write_other, Memory.read_write_other, Memory.read_write_other] <;>
    simp <;> omega

@[simp] theorem State.readByte_giveResult (r : Result) (k : Nat) : (s.giveResult r).readByte k = s.readByte k := by
  simp only [State.readByte, State.giveResult_mem]

@[simp] theorem State.reportBytes_giveResult (r : Result) : (s.giveResult r).reportBytes = s.reportBytes := by
  simp only [State.reportBytes, State.readByte_giveResult]

@[simp] theorem State.reportRegs_giveResult (r : Result) : (s.giveResult r).reportRegs = s.reportRegs := rfl

/-- SERIALIZE writes the buffer alone. -/
theorem State.serialized_eq : s.serialized = { s with mem := s.serialized.mem } := rfl

/-- The buffer after SERIALIZE is the wire format of the registers, whatever it held before. -/
theorem State.serialized_reportBytes : s.serialized.reportBytes = (wireFormat s.reportRegs).map some := by
  simp [State.reportBytes, wireFormat, State.reportRegs]

end

end Sys2Proof.Machine
end

