-- ==== Sys2Proof/Laws/Ops.lean ====
section
/-! SUPPORT. What each shared operation can do, said once: chaining, the tests of `cfg` and `busy`, the environment's
move and the line read. -/

namespace Sys2Proof.Machine

/-! ### Chaining outcomes -/

@[simp] theorem andThen_next (t : State) (f : State → Out) : andThen (.next t) f = f t := rfl
@[simp] theorem andThen_fault (r : Fault) (f : State → Out) : andThen (.fault r) f = .fault r := rfl
@[simp] theorem andThen_refused (r : Refusal) (f : State → Out) : andThen (.refused r) f = .refused r := rfl

/-- A chain answers a next state only through one. -/
theorem andThen_eq_next {o : Out} {f : State → Out} {u : State} :
    andThen o f = .next u ↔ ∃ t, o = .next t ∧ f t = .next u := by
  cases o <;> simp [andThen]

/-! ### The tests before an operation -/

@[simp] theorem guarded_none (o : Out) : guarded none o = o := rfl
@[simp] theorem guarded_some (r : Refusal) (o : Out) : guarded (some r) o = .refused r := rfl

theorem guarded_eq_next {g : Option Refusal} {o : Out} {t : State} :
    guarded g o = .next t ↔ g = none ∧ o = .next t := by
  cases g <;> simp [guarded]

@[simp] theorem cfgTest_eq_none {s : State} : cfgTest s = none ↔ s.cfg = true := by
  unfold cfgTest; split <;> simp_all

@[simp] theorem busyTest_eq_none {s : State} : busyTest s = none ↔ s.busy = false := by
  unfold busyTest; split <;> simp_all

theorem cfgTest_of_cfg {s : State} (h : s.cfg = true) : cfgTest s = none := cfgTest_eq_none.2 h
theorem cfgTest_of_not_cfg {s : State} (h : s.cfg = false) : cfgTest s = some .notConfigured := by simp [cfgTest, h]
theorem busyTest_of_idle {s : State} (h : s.busy = false) : busyTest s = none := busyTest_eq_none.2 h
theorem busyTest_of_busy {s : State} (h : s.busy = true) : busyTest s = some .busy := by simp [busyTest, h]

@[simp] theorem settingBusyTest_micro (s : State) : settingBusyTest .micro s = none := rfl
@[simp] theorem settingBusyTest_direct (s : State) : settingBusyTest .direct s = busyTest s := rfl
@[simp] theorem settingCfgTest_micro (s : State) : settingCfgTest .micro s = none := rfl
@[simp] theorem settingCfgTest_direct (s : State) : settingCfgTest .direct s = cfgTest s := rfl

/-! ### The environment's move and the line read -/

/-- After a move, a wired line has the level the move gives it. -/
theorem State.envMove_lineAt (s : State) {k : Nat} (h : k < s.pinmap.nData) :
    s.envMove.lineAt k = s.comingLevel k := by
  simp [State.lineAt, h]

/-- A read of a wired line is true exactly when the coming level is Low (00_scope.md R18). -/
theorem State.nextSample_eq (s : State) (h : s.pinmap.dataRead < s.pinmap.nData) :
    s.nextSample = decide (s.comingLevel s.pinmap.dataRead = .low) := by
  simp [State.nextSample, s.envMove_lineAt h]

/-- A move that decides the read line decides the coming level. -/
theorem State.comingLevel_of_answer {s : State} {ds : List Drive} {v : Level} (he : s.moveAt 0 = some ds)
    (ha : s.answerUnder ds = some v) : s.comingLevel s.pinmap.dataRead = v := by
  unfold State.answerUnder at ha
  simp only [State.comingLevel, he, State.levelUnder]
  split at ha <;> simp_all

@[simp] theorem State.afterRead_tr (s : State) : s.afterRead.tr = s.tr ++ [.rd s.nextSample] := rfl
@[simp] theorem State.afterRead_env (s : State) : s.afterRead.env = s.env.tail := rfl
@[simp] theorem State.afterRead_draws (s : State) : s.afterRead.draws = s.draws + 1 := rfl
@[simp] theorem State.afterRead_data (s : State) :
    s.afterRead.data = (List.range s.pinmap.nData).map s.comingLevel := rfl

/-- The coming level is the next read's answer, at the trace and counter the state has. -/
theorem State.comingLevel_eq_answerAt (s : State) (j : Nat) {u : State} (he : u.env = s.env.drop j)
    (hr : u.envRest = s.envRest) (hm : u.pinmap = s.pinmap) (hp : u.pullupData = s.pullupData) :
    u.comingLevel u.pinmap.dataRead = s.answerAt j u.tr u.draws := by
  simp only [State.answerAt, State.comingLevel, State.moveAt, State.levelUnder, State.freeLevel, he, hr, hm, hp]

/-! ### The effects of a sample -/

@[simp] theorem State.effectAt_false (s : State) (p : Fin 12) : s.effectAt p false = s := rfl
@[simp] theorem State.effectAt_true (s : State) (p : Fin 12) : s.effectAt p true = s.applyEffect (positionEffect p) := rfl
@[simp] theorem State.applyEffect_setsButton (s : State) (b : Button) :
    s.applyEffect (.setsButton b) = s.setBtnBit (Config.buttonBit b) := rfl
@[simp] theorem State.applyEffect_setsX (s : State) (v : BitVec 8) : s.applyEffect (.setsX v) = s.setX v := rfl
@[simp] theorem State.applyEffect_setsY (s : State) (v : BitVec 8) : s.applyEffect (.setsY v) = s.setY v := rfl

end Sys2Proof.Machine
end

