-- ==== Sys2Proof/Laws/Report.lean ====
section
/-! SUPPORT. Button bits: BUTTON_BIT is injective, setting a bit sets that bit and no other; and everything BUILD
computes, per field of the report. -/

namespace Sys2Proof

theorem Config.defaultBit_injective : Function.Injective Config.defaultBit := by
  intro a b; cases a <;> cases b <;> decide

/-- 00_scope.md R12: whatever the permutation is, BUTTON_BIT is injective. -/
theorem Config.buttonBit_injective : Function.Injective Config.buttonBit :=
  Config.bitOrder.injective.comp Config.defaultBit_injective

theorem Config.buttonBit_inj {a b : Button} : Config.buttonBit a = Config.buttonBit b ↔ a = b :=
  Config.buttonBit_injective.eq_iff

namespace Machine

/-- Bit `j` after setting bit `i`. -/
theorem setBit_getLsbD (v : BitVec 16) (i j : Fin 16) :
    (setBit v i).getLsbD j.val = (v.getLsbD j.val || decide (i = j)) := by
  have hi := i.isLt
  have hj := j.isLt
  simp only [setBit, BitVec.getLsbD_or, BitVec.getLsbD_shiftLeft, BitVec.getLsbD_one]
  congr 1
  by_cases h : i = j
  · subst h; simp
  · have : i.val ≠ j.val := fun e => h (Fin.ext e)
    simp only [h, decide_false]
    rw [Bool.eq_false_iff]
    simp
    omega

theorem setBit_maskLegal {v : BitVec 16} (b : Button) (h : maskLegal v) : maskLegal (setBit v (Config.buttonBit b)) := by
  intro i hi
  rw [setBit_getLsbD, h i hi]
  simp [hi b]

theorem maskLegal_zero : maskLegal 0 := by intro i _; simp

/-! ### BUILD, per field (42_report_builder.md R163) -/

section
variable (r : Report) (b : Bool)

@[simp] theorem Report.withBit_x (i : Fin 16) : (Report.withBit r b i).x = r.x := by cases b <;> rfl
@[simp] theorem Report.withBit_y (i : Fin 16) : (Report.withBit r b i).y = r.y := by cases b <;> rfl
theorem Report.withBit_btn (i j : Fin 16) :
    (Report.withBit r b i).btn.getLsbD j.val = (r.btn.getLsbD j.val || (b && decide (i = j))) := by
  cases b
  · simp [Report.withBit]
  · rw [Bool.true_and]; exact setBit_getLsbD _ _ _
@[simp] theorem Report.withX_x (v : BitVec 8) : (Report.withX r b v).x = if b then v else r.x := by cases b <;> rfl
@[simp] theorem Report.withX_y (v : BitVec 8) : (Report.withX r b v).y = r.y := by cases b <;> rfl
@[simp] theorem Report.withX_btn (v : BitVec 8) : (Report.withX r b v).btn = r.btn := by cases b <;> rfl
@[simp] theorem Report.withY_x (v : BitVec 8) : (Report.withY r b v).x = r.x := by cases b <;> rfl
@[simp] theorem Report.withY_y (v : BitVec 8) : (Report.withY r b v).y = if b then v else r.y := by cases b <;> rfl
@[simp] theorem Report.withY_btn (v : BitVec 8) : (Report.withY r b v).btn = r.btn := by cases b <;> rfl

end

theorem buildWith_x (bit : Button → Fin 16) (sv : SampleVector) :
    (buildWith bit sv).x = if sv[7] then axisHigh else if sv[6] then axisLow else 0 := by
  simp only [buildWith, Report.withBit_x, Report.withX_x, Report.withY_x, neutralReport]

theorem buildWith_y (bit : Button → Fin 16) (sv : SampleVector) :
    (buildWith bit sv).y = if sv[5] then axisHigh else if sv[4] then axisLow else 0 := by
  simp only [buildWith, Report.withBit_y, Report.withX_y, Report.withY_y, neutralReport]

/-- Bit `j` of BTN: some pressed button owns it. -/
theorem buildWith_btn (bit : Button → Fin 16) (sv : SampleVector) (j : Fin 16) :
    (buildWith bit sv).btn.getLsbD j.val =
      ((sv[0] && decide (bit .cross = j)) || (sv[1] && decide (bit .square = j)) ||
       (sv[2] && decide (bit .select = j)) || (sv[3] && decide (bit .start = j)) ||
       (sv[8] && decide (bit .circle = j)) || (sv[9] && decide (bit .triangle = j)) ||
       (sv[10] && decide (bit .l1 = j)) || (sv[11] && decide (bit .r1 = j))) := by
  simp only [buildWith, Report.withBit_btn, Report.withX_btn, Report.withY_btn]
  simp [neutralReport]

end Machine

end Sys2Proof
end

