-- ==== Sys2Proof/Laws/Trace.lean ====
section
/-! SUPPORT. What a trace says, over appended events: waits, line levels, edges, samples (10_state.md R37, R38). -/

namespace Sys2Proof.Machine

@[simp] theorem waited_append (es fs : List Event) : waited (es ++ fs) = waited es + waited fs := by
  induction es with
  | nil => simp [waited]
  | cons e es ih => cases e <;> simp [waited, ih, Nat.add_assoc]

@[simp] theorem clockAfter_append (c : Level) (es fs : List Event) :
    clockAfter c (es ++ fs) = clockAfter (clockAfter c es) fs := by
  induction es generalizing c with
  | nil => rfl
  | cons e es ih => cases e <;> simp [clockAfter, ih]

@[simp] theorem latchAfter_append (c : Level) (es fs : List Event) :
    latchAfter c (es ++ fs) = latchAfter (latchAfter c es) fs := by
  induction es generalizing c with
  | nil => rfl
  | cons e es ih => cases e <;> simp [latchAfter, ih]

theorem edges_clock_append (a b c : Level) (es fs : List Event) :
    edges .clock a b c (es ++ fs) = edges .clock a b c es + edges .clock a b (clockAfter c es) fs := by
  induction es generalizing c with
  | nil => simp [edges, clockAfter]
  | cons e es ih => cases e <;> simp [edges, drivenBy, clockAfter, ih, Nat.add_assoc]

theorem edges_latch_append (a b c : Level) (es fs : List Event) :
    edges .latch a b c (es ++ fs) = edges .latch a b c es + edges .latch a b (latchAfter c es) fs := by
  induction es generalizing c with
  | nil => simp [edges, latchAfter]
  | cons e es ih => cases e <;> simp [edges, drivenBy, latchAfter, ih, Nat.add_assoc]

@[simp] theorem samplesRead_append (es fs : List Event) : samplesRead (es ++ fs) = samplesRead es ++ samplesRead fs := by
  induction es with
  | nil => rfl
  | cons e es ih => cases e <;> simp [samplesRead, ih]

end Sys2Proof.Machine
end

