-- ==== Sys2Proof/Laws/Poll.lean ====
section
/-! SUPPORT. The poll: what each micro-operation of a running poll leaves, block by block of the microprogram
(30_encoding.md R85), and the whole poll as a chain of these. -/

namespace Sys2Proof.Machine

/-! ### The state after each micro-operation -/

/-- After `SETCLK v` as a micro-operation. -/
def State.afterClk (s : State) (v : Level) : State := ((s.driveClock v).emit (.clk v)).advance

/-- After `SETLAT v` as a micro-operation. -/
def State.afterLat (s : State) (v : Level) : State := ((s.driveLatch v).emit (.lat v)).advance

/-- After `WAIT n` as a micro-operation. -/
def State.afterWt (s : State) (n : Nat) : State := ((s.addTime n).emit (.wt n)).advance

/-- After RSTREP. -/
def State.afterRst (s : State) : State := (s.clearReport.emit .rst).advance

/-- After SAMPLE p. -/
def State.afterSample (s : State) (p : Fin 12) : State :=
  (((s.afterRead).recordSample p s.nextSample).effectAt p s.nextSample).advance

/-- After END. -/
def State.afterEnd (s : State) : State := (s.serialized.setIdle).emit .endPoll

/-- After the first four words: steps 1 to 3 of the poll. -/
def State.afterHeader (s : State) : State := (((s.afterClk .high).afterLat .high).afterRst).afterLat .low

/-- After the three words of a pulse. -/
def State.afterPulse (s : State) : State := ((s.afterClk .high).afterWt Config.tPulse).afterClk .low

/-- After the four words of position p. -/
def State.afterPosition (s : State) (p : Fin 12) : State := s.afterPulse.afterSample p

/-- After all twelve positions. -/
def State.afterPositions (s : State) : State :=
  State.afterPosition (State.afterPosition (State.afterPosition (State.afterPosition (State.afterPosition (State.afterPosition
  (State.afterPosition (State.afterPosition (State.afterPosition (State.afterPosition (State.afterPosition (State.afterPosition
    s 0) 1) 2) 3) 4) 5) 6) 7) 8) 9) 10) 11

/-- After the last three words: steps 6 and 7, and END. -/
def State.afterTail (s : State) : State := ((s.afterWt Config.tSettle).afterClk .high).afterEnd

/-- After a whole poll, from its tests on. -/
def State.afterPoll (s : State) : State :=
  s.beginPoll.afterHeader.afterPositions.afterPulse.afterPulse.afterPulse.afterTail

/-- An effect writes X, Y and BTN alone. -/
theorem State.effectAt_eq (s : State) (p : Fin 12) (b : Bool) :
    s.effectAt p b =
      { s with x := (s.effectAt p b).x, y := (s.effectAt p b).y, btn := (s.effectAt p b).btn } := by
  cases b
  · rfl
  · rw [State.effectAt_true]
    cases positionEffect p <;> rfl

/-- Everything SAMPLE p does (41_shift_register_poller.md R123). -/
theorem State.afterSample_eq (s : State) (p : Fin 12) :
    s.afterSample p =
      { s with
        sv := s.sv.set p.val s.nextSample p.isLt
        x := (s.effectAt p s.nextSample).x
        y := (s.effectAt p s.nextSample).y
        btn := (s.effectAt p s.nextSample).btn
        tr := s.tr ++ [.rd s.nextSample]
        upc := s.upc + 1
        data := (List.range s.pinmap.nData).map s.comingLevel
        env := s.env.tail
        draws := s.draws + 1 } := by
  unfold State.afterSample State.afterRead
  generalize s.nextSample = b
  cases b
  · rfl
  · simp only [State.effectAt_true]
    cases positionEffect p <;> rfl

/-- Everything END does (41_shift_register_poller.md R124). -/
theorem State.afterEnd_eq (s : State) :
    s.afterEnd = { s with mem := s.serialized.mem, busy := false, tr := s.tr ++ [.endPoll] } := by
  rw [State.afterEnd, State.serialized_eq]; rfl

theorem State.readByte_afterEnd (s : State) (k : Nat) : s.afterEnd.readByte k = s.serialized.readByte k := by
  simp only [State.readByte, State.afterEnd_eq]

/-- After END the buffer is the wire format of the report registers (42_report_builder.md R167). -/
theorem State.reportBytes_afterEnd (s : State) : s.afterEnd.reportBytes = (wireFormat s.reportRegs).map some := by
  rw [← s.serialized_reportBytes]
  simp only [State.reportBytes, State.readByte_afterEnd]

/-- Everything one pulse does (41_shift_register_poller.md R120). -/
theorem State.afterPulse_eq (s : State) :
    s.afterPulse =
      { s with clock := .low, t := s.t + Config.tPulse, tr := s.tr ++ pulseEvents, upc := s.upc + 3 } := by
  simp only [State.afterPulse, State.afterClk, State.afterWt, State.driveClock, State.emit, State.advance,
    State.addTime, State.mk.injEq, true_and, and_true, pulseEvents, List.append_assoc, List.cons_append, List.nil_append]
  bv_omega

/-! ### Where a running poll is -/

/-- A poll is in progress at index `k` of the given microprogram. -/
structure InPoll (s : State) (k : Nat) : Prop where
  busy : s.busy = true
  cfg : s.cfg = true
  rom : s.rom = microprogram
  upc : s.upc = BitVec.ofNat 6 k

theorem InPoll.begin {s : State} (hc : s.cfg = true) (hr : s.rom = microprogram) : InPoll s.beginPoll 0 :=
  ⟨rfl, hc, hr, rfl⟩

/-- An operation that touches none of these but adds 1 to the index moves the poll on by one. -/
theorem InPoll.next {s t : State} {k : Nat} (h : InPoll s k) (hb : t.busy = s.busy) (hc : t.cfg = s.cfg)
    (hr : t.rom = s.rom) (hu : t.upc = s.upc + 1) : InPoll t (k + 1) :=
  ⟨hb.trans h.busy, hc.trans h.cfg, hr.trans h.rom, by rw [hu, h.upc, BitVec.ofNat_add]; rfl⟩

theorem InPoll.afterClk {s : State} {k : Nat} (h : InPoll s k) (v : Level) : InPoll (s.afterClk v) (k + 1) :=
  h.next rfl rfl rfl rfl

theorem InPoll.afterLat {s : State} {k : Nat} (h : InPoll s k) (v : Level) : InPoll (s.afterLat v) (k + 1) :=
  h.next rfl rfl rfl rfl

theorem InPoll.afterWt {s : State} {k : Nat} (h : InPoll s k) (n : Nat) : InPoll (s.afterWt n) (k + 1) :=
  h.next rfl rfl rfl rfl

theorem InPoll.afterRst {s : State} {k : Nat} (h : InPoll s k) : InPoll s.afterRst (k + 1) :=
  h.next rfl rfl rfl rfl

theorem InPoll.afterSample {s : State} {k : Nat} (h : InPoll s k) (p : Fin 12) : InPoll (s.afterSample p) (k + 1) :=
  h.next (by simp [State.afterSample]) (by simp [State.afterSample]) (by simp [State.afterSample])
    (by simp [State.afterSample])

theorem InPoll.afterPulse {s : State} {k : Nat} (h : InPoll s k) : InPoll s.afterPulse (k + 3) :=
  ((h.afterClk _).afterWt _).afterClk _

theorem InPoll.afterPosition {s : State} {k : Nat} (h : InPoll s k) (p : Fin 12) : InPoll (s.afterPosition p) (k + 4) :=
  h.afterPulse.afterSample p

theorem InPoll.afterHeader {s : State} {k : Nat} (h : InPoll s k) : InPoll s.afterHeader (k + 4) :=
  (((h.afterClk _).afterLat _).afterRst).afterLat _

/-- The word fetched at index `k`. -/
theorem InPoll.fetch {s : State} {k : Nat} (h : InPoll s k) (hk : k < 64) :
    s.fetch = decodeWord microprogram[k] := by
  have hu : s.upc.toNat = k := by rw [h.upc, BitVec.toNat_ofNat]; omega
  simp only [State.fetch, State.fetchWord, h.rom, hu]

/-! ### One step of the sequencer -/

theorem sequencerStep_of_fetch {s : State} {i : Instr} (h : s.fetch = .instr i) : sequencerStep s = execMicro i s := by
  simp [sequencerStep, h]

/-- The sequencer performs what `exec` gives for the fetched instruction: only micro-operations are fetched. -/
theorem execMicro_of_decode {w : Byte} {i : Instr} (h : decodeWord w = .instr i) (s : State) :
    execMicro i s = exec i s := by
  unfold decodeWord decodeBare decodeLevel decodeSample at h
  repeat' split at h
  all_goals first | (cases h; rfl) | cases h

theorem sequencerStep_eq_exec {s : State} {i : Instr} (h : s.fetch = .instr i) : sequencerStep s = exec i s := by
  rw [sequencerStep_of_fetch h, execMicro_of_decode h]

/-- While a poll is in progress and the run is not marked, the step is the sequencer's. -/
theorem step_of_busy {s : State} (hr : s.refused = false) (hb : s.busy = true) : step s = sequencerStep s := by
  cases hf : s.fetch with
  | instr i => simp [step, hr, hb, hf, sequencerStep_eq_exec hf]
  | reserved w => simp [step, sequencerStep, hr, hb, hf]
  | noWord => simp [step, sequencerStep, hr, hb, hf]

theorem sequencerStep_setclk {s : State} {v : Level} (hc : s.cfg = true) (h : s.fetch = .instr (.setclk .micro v)) :
    sequencerStep s = .next (s.afterClk v) := by
  simp [sequencerStep, h, execMicro, execSetclk, cfgTest_of_cfg hc, State.afterClk]

theorem sequencerStep_setlat {s : State} {v : Level} (hc : s.cfg = true) (h : s.fetch = .instr (.setlat .micro v)) :
    sequencerStep s = .next (s.afterLat v) := by
  simp [sequencerStep, h, execMicro, execSetlat, cfgTest_of_cfg hc, State.afterLat]

theorem sequencerStep_wait {s : State} {n : Nat} (h : s.fetch = .instr (.wait .micro n)) :
    sequencerStep s = .next (s.afterWt n) := by
  simp [sequencerStep, h, execMicro, execWait, State.afterWt]

theorem sequencerStep_rstrep {s : State} (h : s.fetch = .instr .rstrep) : sequencerStep s = .next s.afterRst := by
  simp [sequencerStep, h, execMicro, execRstrep, State.afterRst]

theorem sequencerStep_endPoll {s : State} (h : s.fetch = .instr .endPoll) : sequencerStep s = .next s.afterEnd := by
  simp [sequencerStep, h, execMicro, execEndPoll, State.afterEnd]

theorem sampleAt_of_cfg {s : State} (p : Fin 12) (hc : s.cfg = true) : sampleAt p s = .next (s.afterSample p) := by
  simp [sampleAt, cfgTest_of_cfg hc, State.afterSample]

/-- At the fourth word of position p the step is SAMPLE p. -/
theorem InPoll.sampleStep {s : State} {k : Nat} (p : Fin 12) (h : InPoll s k) (hk : k = 7 + 4 * p.val) :
    sequencerStep s = .next (s.afterSample p) := by
  subst hk
  have hf := h.fetch (by omega)
  rw [← sampleAt_of_cfg p h.cfg]
  fin_cases p <;> exact sequencerStep_of_fetch hf

/-! ### The loop -/

theorem pollLoop_of_step {n : Nat} {s t : State} (hb : s.busy = true) (h : sequencerStep s = .next t) :
    pollLoop (n + 1) s = pollLoop n t := by
  simp [pollLoop, hb, h]

theorem pollLoop_of_idle (n : Nat) {s : State} (h : s.busy = false) : pollLoop n s = .next s := by
  cases n <;> simp [pollLoop, h]

/-- What every sequencer step keeps, the loop keeps. -/
theorem pollLoop_keeps {P : State → Prop} (hstep : ∀ s t, sequencerStep s = .next t → P s → P t) :
    ∀ (n : Nat) (s t : State), pollLoop n s = .next t → P s → P t := by
  intro n
  induction n with
  | zero =>
    intro s t h hp
    simp only [pollLoop] at h
    split at h <;> cases h
    exact hp
  | succ n ih =>
    intro s t h hp
    simp only [pollLoop] at h
    split at h
    · obtain ⟨u, hu, h⟩ := andThen_eq_next.1 h
      exact ih u t h (hstep s u hu hp)
    · cases h; exact hp

/-- The loop answers a next state only when the poll has ended. -/
theorem pollLoop_ends : ∀ (n : Nat) (s t : State), pollLoop n s = .next t → t.busy = false := by
  intro n
  induction n with
  | zero =>
    intro s t h
    simp only [pollLoop] at h
    split at h <;> cases h
    simp_all
  | succ n ih =>
    intro s t h
    simp only [pollLoop] at h
    split at h
    · obtain ⟨u, -, h⟩ := andThen_eq_next.1 h
      exact ih u t h
    · cases h; simp_all

/-- A poll starts exactly from a configured, idle block. -/
theorem startPoll_eq_next {s t : State} :
    startPoll s = .next t ↔ s.cfg = true ∧ s.busy = false ∧ t = s.beginPoll := by
  simp only [startPoll, guarded_eq_next, cfgTest_eq_none, busyTest_eq_none, Host.Outcome.next.injEq, eq_comm (a := t)]

/-- A poll answers a next state only from a configured, idle block, through the loop. -/
theorem runPoll_eq_next {s t : State} (h : runPoll s = .next t) :
    s.cfg = true ∧ s.busy = false ∧ pollLoop Config.pollLength s.beginPoll = .next t := by
  obtain ⟨u, hu, h⟩ := andThen_eq_next.1 h
  obtain ⟨hc, hb, rfl⟩ := startPoll_eq_next.1 hu
  exact ⟨hc, hb, h⟩

/-! ### Blocks of the microprogram -/

theorem pollLoop_header {n : Nat} {s : State} (h : InPoll s 0) : pollLoop (n + 4) s = pollLoop n s.afterHeader := by
  have h1 := h.afterClk .high
  have h2 := h1.afterLat .high
  have h3 := h2.afterRst
  rw [pollLoop_of_step h.busy (sequencerStep_setclk (v := .high) h.cfg ((h.fetch (by omega)).trans rfl)),
    pollLoop_of_step h1.busy (sequencerStep_setlat (v := .high) h1.cfg ((h1.fetch (by omega)).trans rfl)),
    pollLoop_of_step h2.busy (sequencerStep_rstrep ((h2.fetch (by omega)).trans rfl)),
    pollLoop_of_step h3.busy (sequencerStep_setlat (v := .low) h3.cfg ((h3.fetch (by omega)).trans rfl))]
  rfl

/-- Three words that are a pulse are performed as one. -/
theorem pollLoop_pulse {n k : Nat} {s : State} (h : InPoll s k) (hk : k + 2 < 64)
    (w0 : decodeWord microprogram[k] = .instr (.setclk .micro .high))
    (w1 : decodeWord microprogram[k + 1] = .instr (.wait .micro Config.tPulse))
    (w2 : decodeWord microprogram[k + 2] = .instr (.setclk .micro .low)) :
    pollLoop (n + 3) s = pollLoop n s.afterPulse := by
  have h1 := h.afterClk .high
  have h2 := h1.afterWt Config.tPulse
  rw [pollLoop_of_step h.busy (sequencerStep_setclk h.cfg ((h.fetch (by omega)).trans w0)),
    pollLoop_of_step h1.busy (sequencerStep_wait ((h1.fetch (by omega)).trans w1)),
    pollLoop_of_step h2.busy (sequencerStep_setclk h2.cfg ((h2.fetch hk).trans w2))]
  rfl

theorem pollLoop_position {n k : Nat} {s : State} (p : Fin 12) (h : InPoll s k) (hk : k = 4 + 4 * p.val) :
    pollLoop (n + 4) s = pollLoop n (s.afterPosition p) := by
  have h3 := h.afterPulse
  rw [pollLoop_pulse (n := n + 1) h (by omega) (by subst hk; fin_cases p <;> rfl) (by subst hk; fin_cases p <;> rfl)
    (by subst hk; fin_cases p <;> rfl), pollLoop_of_step h3.busy (h3.sampleStep p (by omega))]
  rfl

theorem InPoll.afterPositions {s : State} (h : InPoll s 4) : InPoll s.afterPositions 52 :=
  (((((((((((h.afterPosition 0).afterPosition 1).afterPosition 2).afterPosition 3).afterPosition 4).afterPosition
    5).afterPosition 6).afterPosition 7).afterPosition 8).afterPosition 9).afterPosition 10).afterPosition 11

theorem pollLoop_positions {n : Nat} {s : State} (h : InPoll s 4) :
    pollLoop (n + 48) s = pollLoop n s.afterPositions := by
  have h0 := h.afterPosition 0
  have h1 := h0.afterPosition 1
  have h2 := h1.afterPosition 2
  have h3 := h2.afterPosition 3
  have h4 := h3.afterPosition 4
  have h5 := h4.afterPosition 5
  have h6 := h5.afterPosition 6
  have h7 := h6.afterPosition 7
  have h8 := h7.afterPosition 8
  have h9 := h8.afterPosition 9
  have h10 := h9.afterPosition 10
  rw [pollLoop_position (n := n + 44) 0 h rfl, pollLoop_position (n := n + 40) 1 h0 rfl,
    pollLoop_position (n := n + 36) 2 h1 rfl, pollLoop_position (n := n + 32) 3 h2 rfl,
    pollLoop_position (n := n + 28) 4 h3 rfl, pollLoop_position (n := n + 24) 5 h4 rfl,
    pollLoop_position (n := n + 20) 6 h5 rfl, pollLoop_position (n := n + 16) 7 h6 rfl,
    pollLoop_position (n := n + 12) 8 h7 rfl, pollLoop_position (n := n + 8) 9 h8 rfl,
    pollLoop_position (n := n + 4) 10 h9 rfl, pollLoop_position (n := n) 11 h10 rfl]
  rfl

theorem pollLoop_tail {n : Nat} {s : State} (h : InPoll s 61) : pollLoop (n + 3) s = .next s.afterTail := by
  have h1 := h.afterWt Config.tSettle
  have h2 := h1.afterClk .high
  rw [pollLoop_of_step h.busy (sequencerStep_wait (n := Config.tSettle) ((h.fetch (by omega)).trans rfl)),
    pollLoop_of_step h1.busy (sequencerStep_setclk (v := .high) h1.cfg ((h1.fetch (by omega)).trans rfl)),
    pollLoop_of_step h2.busy (sequencerStep_endPoll ((h2.fetch (by omega)).trans rfl)), pollLoop_of_idle n (by rfl)]
  rfl

/-- A whole poll of a configured, idle block that holds the given microprogram. -/
theorem runPoll_eq {s : State} (hc : s.cfg = true) (hb : s.busy = false) (hr : s.rom = microprogram) :
    runPoll s = .next s.afterPoll := by
  have h := InPoll.begin hc hr
  have h4 := h.afterHeader
  have h52 := h4.afterPositions
  have h55 := h52.afterPulse
  have h58 := h55.afterPulse
  have h61 := h58.afterPulse
  rw [runPoll, startPoll_eq_next.2 ⟨hc, hb, rfl⟩, andThen_next,
    show Config.pollLength = 60 + 4 from rfl, pollLoop_header h, pollLoop_positions (n := 12) h4,
    pollLoop_pulse (n := 9) h52 (by omega) rfl rfl rfl, pollLoop_pulse (n := 6) h55 (by omega) rfl rfl rfl,
    pollLoop_pulse (n := 3) h58 (by omega) rfl rfl rfl, pollLoop_tail (n := 0) h61]
  rfl

end Sys2Proof.Machine
end

