-- ==== Sys2Proof/Laws/Cases.lean ====
section
/-! SUPPORT. What each instruction can answer, said once: the case analysis that whole-machine rules go through. -/

namespace Sys2Proof.Machine

/-- The next states an instruction can answer, and the tests it has then passed. -/
def Answers (s : State) : Instr → State → Prop
  | .endPoll, t => t = s.afterEnd
  | .setclk c v, t => s.cfg = true ∧ t = ((s.driveClock v).emit (.clk v)).stepIndex c
  | .setlat c v, t => s.cfg = true ∧ t = ((s.driveLatch v).emit (.lat v)).stepIndex c
  | .wait c n, t => (c = .direct → s.cfg = true) ∧ t = ((s.addTime n).emit (.wt n)).stepIndex c
  | .sample0, t => s.cfg = true ∧ t = s.afterSample 0
  | .sample1, t => s.cfg = true ∧ t = s.afterSample 1
  | .sample2, t => s.cfg = true ∧ t = s.afterSample 2
  | .sample3, t => s.cfg = true ∧ t = s.afterSample 3
  | .sample4, t => s.cfg = true ∧ t = s.afterSample 4
  | .sample5, t => s.cfg = true ∧ t = s.afterSample 5
  | .sample6, t => s.cfg = true ∧ t = s.afterSample 6
  | .sample7, t => s.cfg = true ∧ t = s.afterSample 7
  | .sample8, t => s.cfg = true ∧ t = s.afterSample 8
  | .sample9, t => s.cfg = true ∧ t = s.afterSample 9
  | .sample10, t => s.cfg = true ∧ t = s.afterSample 10
  | .sample11, t => s.cfg = true ∧ t = s.afterSample 11
  | .rstrep, t => t = s.afterRst
  | .configure m, t => s.cfg = false ∧ t = (s.configureLines m).emit .cfg
  | .readdata, t => s.cfg = true ∧ t = s.afterRead.giveResult (.sample s.nextSample)
  | .toggle _, t => s.cfg = true ∧ t = { s with
      clock := .low, t := s.t + Config.tPulse, tr := s.tr ++ pulseEvents, upc := t.upc }
  | .poll, t => ∃ u, runPoll s = .next u ∧ t = u.giveResult (.samples u.sv)
  | .build sv, t => t = s.giveResult (.report (buildReport sv))
  | .serialize, t => t = s.serialized
  | .onCreateReport, t => ∃ u b0 b1 b2 b3, runPoll s = .next u ∧
      u.reportBytes = [some b0, some b1, some b2, some b3] ∧ t = u.giveResult (.bytes b0 b1 b2 b3 false)
  | .onHostReport _, t => t = s
  | .lifecycle _, t => t = s

theorem next_inj {s t : State} (h : (Host.Outcome.next s : Out) = .next t) : t = s := (Host.Outcome.next.inj h).symm

/-- Advancing the index, or not, writes `upc` alone. -/
theorem State.stepIndex_eq (s : State) (c : Setting) : s.stepIndex c = { s with upc := (s.stepIndex c).upc } := by
  cases c <;> rfl

theorem execSetclk_eq_next {c : Setting} {v : Level} {s t : State} (h : execSetclk c v s = .next t) :
    s.cfg = true ∧ t = ((s.driveClock v).emit (.clk v)).stepIndex c := by
  obtain ⟨h1, h⟩ := guarded_eq_next.1 h
  obtain ⟨-, h⟩ := guarded_eq_next.1 h
  exact ⟨cfgTest_eq_none.1 h1, next_inj h⟩

theorem execSetlat_eq_next {c : Setting} {v : Level} {s t : State} (h : execSetlat c v s = .next t) :
    s.cfg = true ∧ t = ((s.driveLatch v).emit (.lat v)).stepIndex c := by
  obtain ⟨h1, h⟩ := guarded_eq_next.1 h
  obtain ⟨-, h⟩ := guarded_eq_next.1 h
  exact ⟨cfgTest_eq_none.1 h1, next_inj h⟩

theorem execWait_eq_next {c : Setting} {n : Nat} {s t : State} (h : execWait c n s = .next t) :
    (c = .direct → s.cfg = true) ∧ t = ((s.addTime n).emit (.wt n)).stepIndex c := by
  obtain ⟨h1, h⟩ := guarded_eq_next.1 h
  obtain ⟨-, h⟩ := guarded_eq_next.1 h
  exact ⟨by rintro rfl; exact cfgTest_eq_none.1 h1, next_inj h⟩

theorem sampleAt_eq_next {p : Fin 12} {s t : State} (h : sampleAt p s = .next t) :
    s.cfg = true ∧ t = s.afterSample p := by
  obtain ⟨h1, h⟩ := guarded_eq_next.1 h
  exact ⟨cfgTest_eq_none.1 h1, next_inj h⟩

/-- Every next state is one of these. -/
theorem exec_answers {i : Instr} {s t : State} (h : exec i s = .next t) : Answers s i t := by
  cases i with
  | endPoll => exact next_inj h
  | setclk c v => exact execSetclk_eq_next h
  | setlat c v => exact execSetlat_eq_next h
  | wait c n => exact execWait_eq_next h
  | sample0 => exact sampleAt_eq_next h
  | sample1 => exact sampleAt_eq_next h
  | sample2 => exact sampleAt_eq_next h
  | sample3 => exact sampleAt_eq_next h
  | sample4 => exact sampleAt_eq_next h
  | sample5 => exact sampleAt_eq_next h
  | sample6 => exact sampleAt_eq_next h
  | sample7 => exact sampleAt_eq_next h
  | sample8 => exact sampleAt_eq_next h
  | sample9 => exact sampleAt_eq_next h
  | sample10 => exact sampleAt_eq_next h
  | sample11 => exact sampleAt_eq_next h
  | rstrep => exact next_inj h
  | configure m =>
    simp only [exec, execConfigure] at h
    split at h
    · cases h
    · exact ⟨by simp_all, next_inj h⟩
  | readdata =>
    obtain ⟨h1, h⟩ := guarded_eq_next.1 h
    obtain ⟨-, h⟩ := guarded_eq_next.1 h
    exact ⟨cfgTest_eq_none.1 h1, next_inj h⟩
  | toggle c =>
    obtain ⟨a, ha, h⟩ := andThen_eq_next.1 h
    obtain ⟨b, hb, h⟩ := andThen_eq_next.1 h
    obtain ⟨hc, rfl⟩ := execSetclk_eq_next ha
    obtain ⟨-, rfl⟩ := execWait_eq_next hb
    obtain ⟨-, rfl⟩ := execSetclk_eq_next h
    refine ⟨hc, ?_⟩
    cases c <;> simp [State.stepIndex, State.driveClock, State.emit, State.addTime, State.advance, pulseEvents]
  | poll =>
    obtain ⟨u, hu, h⟩ := andThen_eq_next.1 h
    exact ⟨u, hu, next_inj h⟩
  | build sv => exact next_inj h
  | serialize => exact next_inj h
  | onCreateReport =>
    obtain ⟨u, hu, h⟩ := andThen_eq_next.1 h
    unfold returnReport at h
    split at h
    · next b0 b1 b2 b3 h0 h1 h2 h3 => exact ⟨u, b0, b1, b2, b3, hu, by simp [State.reportBytes, h0, h1, h2, h3], next_inj h⟩
    · cases h
  | onHostReport b => exact next_inj h
  | lifecycle e => exact next_inj h

/-! ### What polls keep -/

/-- Only micro-operations are decoded. -/
theorem isMicroOp_of_decode {w : Byte} {i : Instr} (h : decodeWord w = .instr i) : i.isMicroOp = true := by
  unfold decodeWord decodeBare decodeLevel decodeSample at h
  repeat' split at h
  all_goals first | (cases h; rfl) | cases h

/-- A sequencer step that goes on is the micro-operation it fetched. -/
theorem sequencerStep_eq_next {s t : State} (h : sequencerStep s = .next t) :
    ∃ i, decodeWord s.fetchWord = .instr i ∧ exec i s = .next t := by
  cases hf : s.fetch with
  | instr i => rw [sequencerStep_eq_exec hf] at h; exact ⟨i, hf, h⟩
  | reserved w => simp [sequencerStep, hf] at h
  | noWord => simp [sequencerStep, hf] at h

/-- What the start of a poll and every micro-operation keep, a poll keeps. -/
theorem runPoll_keeps {P : State → Prop} {s u : State} (hs : P s) (hbegin : P s → P s.beginPoll)
    (hmicro : ∀ i a b, i.isMicroOp = true → exec i a = .next b → P a → P b) (h : runPoll s = .next u) : P u := by
  obtain ⟨-, -, h⟩ := runPoll_eq_next h
  refine pollLoop_keeps (fun a b hab ha => ?_) _ _ _ h (hbegin hs)
  obtain ⟨i, hi, hab⟩ := sequencerStep_eq_next hab
  exact hmicro i a b (isMicroOp_of_decode hi) hab ha

end Sys2Proof.Machine
end

