-- ==== Sys2Proof/Laws/PerInstr.lean ====
section
/-! SUPPORT. Statements about every instruction as syntax, one lemma per constructor. -/

namespace Sys2Proof.Laws.HasWord

/-- An instruction has a word exactly when it is a well-formed micro-operation (30_encoding.md R79, R80, R86). -/
def Statement (i : Instr) : Prop := (encode i).isSome = (i.isMicroOp && i.wf)

theorem endPoll : Statement .endPoll := rfl
theorem setclk (c : Setting) (v : Level) : Statement (.setclk c v) := by cases c <;> rfl
theorem setlat (c : Setting) (v : Level) : Statement (.setlat c v) := by cases c <;> rfl
theorem wait (c : Setting) (n : Nat) : Statement (.wait c n) := by
  cases c
  · by_cases h : n < 16 <;> simp [Statement, encode, Instr.isMicroOp, Instr.wf, h]
  · rfl
theorem sample0 : Statement .sample0 := rfl
theorem sample1 : Statement .sample1 := rfl
theorem sample2 : Statement .sample2 := rfl
theorem sample3 : Statement .sample3 := rfl
theorem sample4 : Statement .sample4 := rfl
theorem sample5 : Statement .sample5 := rfl
theorem sample6 : Statement .sample6 := rfl
theorem sample7 : Statement .sample7 := rfl
theorem sample8 : Statement .sample8 := rfl
theorem sample9 : Statement .sample9 := rfl
theorem sample10 : Statement .sample10 := rfl
theorem sample11 : Statement .sample11 := rfl
theorem rstrep : Statement .rstrep := rfl
theorem configure (m : PinMap) : Statement (.configure m) := rfl
theorem readdata : Statement .readdata := rfl
theorem toggle (c : Setting) : Statement (.toggle c) := rfl
theorem poll : Statement .poll := rfl
theorem build (sv : SampleVector) : Statement (.build sv) := rfl
theorem serialize : Statement .serialize := rfl
theorem onCreateReport : Statement .onCreateReport := rfl
theorem onHostReport (b : List Byte) : Statement (.onHostReport b) := rfl
theorem lifecycle (e : LifecycleEvent) : Statement (.lifecycle e) := rfl

end Sys2Proof.Laws.HasWord
end

