-- ==== Sys2Proof/Laws/Positions.lean ====
section
/-! SUPPORT. The twelve positions of a poll: everything one position does, and the state after the first `k` of them, by
field (41_shift_register_poller.md R121, 42_report_builder.md R166). -/

namespace Sys2Proof.Machine

/-- A report after a sample of position p (30_encoding.md R74). -/
def Report.afterEffect (r : Report) (p : Fin 12) (b : Bool) : Report :=
  if b then
    match positionEffect p with
    | .setsButton n => { r with btn := setBit r.btn (Config.buttonBit n) }
    | .setsX v => { r with x := v }
    | .setsY v => { r with y := v }
  else r

theorem State.reportRegs_effectAt (s : State) (p : Fin 12) (b : Bool) :
    (s.effectAt p b).reportRegs = Report.afterEffect s.reportRegs p b := by
  cases b
  · rfl
  · rw [State.effectAt_true, Report.afterEffect]
    cases positionEffect p <;> rfl

/-- The sample a position reads after its pulse. -/
def State.pulsedSample (s : State) : Bool := s.afterPulse.nextSample

/-- Everything the four words of position p do. -/
theorem State.afterPosition_eq (s : State) (p : Fin 12) :
    s.afterPosition p =
      { s with
        clock := .low
        t := s.t + 1
        tr := s.tr ++ (pulseEvents ++ [.rd s.pulsedSample])
        upc := s.upc + 4
        sv := s.sv.set p.val s.pulsedSample p.isLt
        x := (Report.afterEffect s.reportRegs p s.pulsedSample).x
        y := (Report.afterEffect s.reportRegs p s.pulsedSample).y
        btn := (Report.afterEffect s.reportRegs p s.pulsedSample).btn
        data := (s.afterPosition p).data
        env := s.env.tail
        draws := (s.afterPosition p).draws } := by
  conv_lhs => rw [State.afterPosition, State.afterSample_eq]
  have h := State.reportRegs_effectAt s.afterPulse p s.afterPulse.nextSample
  have hr : s.afterPulse.reportRegs = s.reportRegs := by rw [State.afterPulse_eq]; rfl
  rw [hr] at h
  have hx : (s.afterPulse.effectAt p s.afterPulse.nextSample).x =
      (Report.afterEffect s.reportRegs p s.pulsedSample).x := congrArg Report.x h
  have hy : (s.afterPulse.effectAt p s.afterPulse.nextSample).y =
      (Report.afterEffect s.reportRegs p s.pulsedSample).y := congrArg Report.y h
  have hb : (s.afterPulse.effectAt p s.afterPulse.nextSample).btn =
      (Report.afterEffect s.reportRegs p s.pulsedSample).btn := congrArg Report.btn h
  have hd : (s.afterPosition p).data = (List.range s.afterPulse.pinmap.nData).map s.afterPulse.comingLevel := by
    rw [State.afterPosition, State.afterSample_eq]
  have hdr : (s.afterPosition p).draws = s.afterPulse.draws + 1 := by
    rw [State.afterPosition, State.afterSample_eq]
  rw [hx, hy, hb, hd, hdr]
  simp only [State.mk.injEq]
  repeat' refine And.intro ?_ ?_
  all_goals first
    | trivial
    | (rw [State.afterPulse_eq]; done)
    | (simp only [State.afterPulse_eq, State.pulsedSample, List.append_assoc]; done)
    | (simp only [State.afterPulse_eq]; bv_omega)

section
variable (s : State) (p : Fin 12)

@[simp] theorem State.afterPosition_latch : (s.afterPosition p).latch = s.latch := by rw [State.afterPosition_eq]
@[simp] theorem State.afterPosition_pinmap : (s.afterPosition p).pinmap = s.pinmap := by rw [State.afterPosition_eq]
@[simp] theorem State.afterPosition_dirClock : (s.afterPosition p).dirClock = s.dirClock := by rw [State.afterPosition_eq]
@[simp] theorem State.afterPosition_dirLatch : (s.afterPosition p).dirLatch = s.dirLatch := by rw [State.afterPosition_eq]
@[simp] theorem State.afterPosition_dirData : (s.afterPosition p).dirData = s.dirData := by rw [State.afterPosition_eq]
@[simp] theorem State.afterPosition_pullupData : (s.afterPosition p).pullupData = s.pullupData := by rw [State.afterPosition_eq]
@[simp] theorem State.afterPosition_cfg : (s.afterPosition p).cfg = s.cfg := by rw [State.afterPosition_eq]
@[simp] theorem State.afterPosition_busy : (s.afterPosition p).busy = s.busy := by rw [State.afterPosition_eq]
@[simp] theorem State.afterPosition_mem : (s.afterPosition p).mem = s.mem := by rw [State.afterPosition_eq]
@[simp] theorem State.afterPosition_refused : (s.afterPosition p).refused = s.refused := by rw [State.afterPosition_eq]
@[simp] theorem State.afterPosition_rom : (s.afterPosition p).rom = s.rom := by rw [State.afterPosition_eq]
@[simp] theorem State.afterPosition_envRest : (s.afterPosition p).envRest = s.envRest := by rw [State.afterPosition_eq]
@[simp] theorem State.afterPosition_calls : (s.afterPosition p).calls = s.calls := by rw [State.afterPosition_eq]
@[simp] theorem State.afterPosition_results : (s.afterPosition p).results = s.results := by rw [State.afterPosition_eq]
@[simp] theorem State.afterPosition_clock : (s.afterPosition p).clock = .low := by rw [State.afterPosition_eq]
@[simp] theorem State.afterPosition_t : (s.afterPosition p).t = s.t + 1 := by rw [State.afterPosition_eq]
@[simp] theorem State.afterPosition_upc : (s.afterPosition p).upc = s.upc + 4 := by rw [State.afterPosition_eq]
@[simp] theorem State.afterPosition_env : (s.afterPosition p).env = s.env.tail := by rw [State.afterPosition_eq]
theorem State.afterPosition_tr : (s.afterPosition p).tr = s.tr ++ (pulseEvents ++ [.rd s.pulsedSample]) := by
  rw [State.afterPosition_eq]
theorem State.afterPosition_sv : (s.afterPosition p).sv = s.sv.set p.val s.pulsedSample p.isLt := by
  rw [State.afterPosition_eq]
theorem State.reportRegs_afterPosition :
    (s.afterPosition p).reportRegs = Report.afterEffect s.reportRegs p s.pulsedSample := by
  rw [State.afterPosition_eq]; rfl

end

/-! ### The state after the first `k` positions -/

/-- The first `k` positions in order; from the twelfth on there is none left. -/
def State.positionsTo (s : State) : Nat → State
  | 0 => s
  | k + 1 => if h : k < 12 then (State.positionsTo s k).afterPosition ⟨k, h⟩ else State.positionsTo s k

/-- After the first `k` positions. It is irreducible: its lemmas say everything, and unfolding twelve reads is slow. -/
@[irreducible] def State.sampledTo (s : State) (k : Nat) : State := s.positionsTo k

/-- The twelve samples the coming positions read. -/
def State.pollSamples (s : State) : SampleVector := Vector.ofFn fun p => (s.sampledTo p.val).pulsedSample

section
variable (s : State)

@[simp] theorem State.sampledTo_zero : s.sampledTo 0 = s := by rw [State.sampledTo]; rfl

theorem State.sampledTo_step (k : Nat) :
    s.sampledTo (k + 1) = if h : k < 12 then (s.sampledTo k).afterPosition ⟨k, h⟩ else s.sampledTo k := by
  unfold State.sampledTo; rfl

theorem State.sampledTo_succ {k : Nat} (h : k < 12) : s.sampledTo (k + 1) = (s.sampledTo k).afterPosition ⟨k, h⟩ := by
  rw [State.sampledTo_step, dif_pos h]

theorem State.afterPositions_eq : s.afterPositions = s.sampledTo 12 := by
  simp [State.afterPositions, State.sampledTo_step]

@[simp] theorem State.sampledTo_latch (k : Nat) : (s.sampledTo k).latch = s.latch := by
  induction k with
  | zero => rw [State.sampledTo_zero]
  | succ k ih => rw [State.sampledTo_step]; split <;> simp [ih]
@[simp] theorem State.sampledTo_pinmap (k : Nat) : (s.sampledTo k).pinmap = s.pinmap := by
  induction k with
  | zero => rw [State.sampledTo_zero]
  | succ k ih => rw [State.sampledTo_step]; split <;> simp [ih]
@[simp] theorem State.sampledTo_dirClock (k : Nat) : (s.sampledTo k).dirClock = s.dirClock := by
  induction k with
  | zero => rw [State.sampledTo_zero]
  | succ k ih => rw [State.sampledTo_step]; split <;> simp [ih]
@[simp] theorem State.sampledTo_dirLatch (k : Nat) : (s.sampledTo k).dirLatch = s.dirLatch := by
  induction k with
  | zero => rw [State.sampledTo_zero]
  | succ k ih => rw [State.sampledTo_step]; split <;> simp [ih]
@[simp] theorem State.sampledTo_dirData (k : Nat) : (s.sampledTo k).dirData = s.dirData := by
  induction k with
  | zero => rw [State.sampledTo_zero]
  | succ k ih => rw [State.sampledTo_step]; split <;> simp [ih]
@[simp] theorem State.sampledTo_pullupData (k : Nat) : (s.sampledTo k).pullupData = s.pullupData := by
  induction k with
  | zero => rw [State.sampledTo_zero]
  | succ k ih => rw [State.sampledTo_step]; split <;> simp [ih]
@[simp] theorem State.sampledTo_cfg (k : Nat) : (s.sampledTo k).cfg = s.cfg := by
  induction k with
  | zero => rw [State.sampledTo_zero]
  | succ k ih => rw [State.sampledTo_step]; split <;> simp [ih]
@[simp] theorem State.sampledTo_busy (k : Nat) : (s.sampledTo k).busy = s.busy := by
  induction k with
  | zero => rw [State.sampledTo_zero]
  | succ k ih => rw [State.sampledTo_step]; split <;> simp [ih]
@[simp] theorem State.sampledTo_mem (k : Nat) : (s.sampledTo k).mem = s.mem := by
  induction k with
  | zero => rw [State.sampledTo_zero]
  | succ k ih => rw [State.sampledTo_step]; split <;> simp [ih]
@[simp] theorem State.sampledTo_refused (k : Nat) : (s.sampledTo k).refused = s.refused := by
  induction k with
  | zero => rw [State.sampledTo_zero]
  | succ k ih => rw [State.sampledTo_step]; split <;> simp [ih]
@[simp] theorem State.sampledTo_rom (k : Nat) : (s.sampledTo k).rom = s.rom := by
  induction k with
  | zero => rw [State.sampledTo_zero]
  | succ k ih => rw [State.sampledTo_step]; split <;> simp [ih]
@[simp] theorem State.sampledTo_envRest (k : Nat) : (s.sampledTo k).envRest = s.envRest := by
  induction k with
  | zero => rw [State.sampledTo_zero]
  | succ k ih => rw [State.sampledTo_step]; split <;> simp [ih]
@[simp] theorem State.sampledTo_calls (k : Nat) : (s.sampledTo k).calls = s.calls := by
  induction k with
  | zero => rw [State.sampledTo_zero]
  | succ k ih => rw [State.sampledTo_step]; split <;> simp [ih]
@[simp] theorem State.sampledTo_results (k : Nat) : (s.sampledTo k).results = s.results := by
  induction k with
  | zero => rw [State.sampledTo_zero]
  | succ k ih => rw [State.sampledTo_step]; split <;> simp [ih]

theorem State.sampledTo_t {k : Nat} (h : k ≤ 12) : (s.sampledTo k).t = s.t + k := by
  induction k with
  | zero => simp
  | succ k ih => rw [s.sampledTo_succ (by omega), State.afterPosition_t, ih (by omega)]; omega

theorem State.sampledTo_upc {k : Nat} (h : k ≤ 12) : (s.sampledTo k).upc = s.upc + BitVec.ofNat 6 (4 * k) := by
  induction k with
  | zero => simp
  | succ k ih => rw [s.sampledTo_succ (by omega), State.afterPosition_upc, ih (by omega)]; bv_omega

theorem State.sampledTo_env {k : Nat} (h : k ≤ 12) : (s.sampledTo k).env = s.env.drop k := by
  induction k with
  | zero => simp
  | succ k ih => rw [s.sampledTo_succ (by omega), State.afterPosition_env, ih (by omega)]; simp

theorem State.sampledTo_tr {k : Nat} (h : k ≤ 12) :
    (s.sampledTo k).tr = s.tr ++
      ((List.range k).map fun j => (s.sampledTo j).pulsedSample).flatMap fun v => pulseEvents ++ [.rd v] := by
  induction k with
  | zero => simp
  | succ k ih =>
    rw [s.sampledTo_succ (by omega), State.afterPosition_tr, ih (by omega), List.append_assoc, List.range_succ]
    simp

theorem State.pollSamples_toList :
    s.pollSamples.toList = (List.range 12).map fun j => (s.sampledTo j).pulsedSample := by
  apply List.ext_getElem
  · simp
  · intro i h1 h2; simp [State.pollSamples]

/-- SV after `k` positions of a poll whose SV began cleared: the samples read so far, and false beyond. -/
theorem State.sampledTo_sv (hsv : s.sv = Vector.replicate 12 false) {k : Nat} (h : k ≤ 12) (p : Nat) (hp : p < 12) :
    (s.sampledTo k).sv[p] = if p < k then s.pollSamples[p] else false := by
  induction k with
  | zero => simp [hsv]
  | succ k ih =>
    rw [s.sampledTo_succ (by omega)]
    simp only [State.afterPosition_sv, Vector.getElem_set]
    split
    · next e => subst e; simp [State.pollSamples]
    · next e => rw [ih (by omega)]; congr 1; simp; omega

theorem State.reportRegs_sampledTo_succ {k : Nat} (h : k < 12) :
    (s.sampledTo (k + 1)).reportRegs =
      Report.afterEffect (s.sampledTo k).reportRegs ⟨k, h⟩ (s.sampledTo k).pulsedSample := by
  rw [s.sampledTo_succ h, State.reportRegs_afterPosition]

/-- Everything the first four words of a poll do (41_shift_register_poller.md R121, steps 1 to 3). -/
theorem State.beginPoll_afterHeader_eq :
    s.beginPoll.afterHeader =
      { s with
        busy := true, upc := 4, clock := .high, latch := .low, x := 0, y := 0, btn := 0
        sv := Vector.replicate 12 false
        tr := s.tr ++ [.clk .high, .lat .high, .rst, .lat .low] } := by
  simp [State.afterHeader, State.afterClk, State.afterLat, State.afterRst, State.beginPoll, State.emit,
    State.advance, State.driveClock, State.driveLatch, State.clearReport]

end

end Sys2Proof.Machine
end

