-- ==== Sys2Proof/Laws/Run.lean ====
section
/-! SUPPORT. A poll as steps of the machine: one step per micro-operation, chained by transitivity
(41_shift_register_poller.md R122, R129). -/

namespace Sys2Proof.Machine

theorem run_trans {a b : Nat} {s t u : State} (h1 : Host.Core.run Sys2Proof.core a s = .next t)
    (h2 : Host.Core.run Sys2Proof.core b t = .next u) : Host.Core.run Sys2Proof.core (a + b) s = .next u := by
  induction a generalizing s with
  | zero => cases h1; simpa using h2
  | succ n ih =>
    simp only [Host.Core.run] at h1
    rw [show n + 1 + b = (n + b) + 1 by omega]
    simp only [Host.Core.run]
    split at h1
    · next v hv => simp only [ih h1]
    · cases h1
    · cases h1

/-- One sequencer step is one step of an unmarked machine with a poll in progress. -/
theorem run_one {s t : State} (hr : s.refused = false) (hb : s.busy = true) (h : sequencerStep s = .next t) :
    Host.Core.run Sys2Proof.core 1 s = .next t := by
  have hs : Sys2Proof.core.step s = .next t := (step_of_busy hr hb).trans h
  simp only [Host.Core.run, hs]

/-- The table of the 63 words before END, by kind. -/
theorem microprogram_table : ∀ k : Fin 63, (match decodeWord (microprogram[k.val]'(by omega)) with
    | .instr (.setclk .micro _) => true
    | .instr (.setlat .micro _) => true
    | .instr (.wait .micro _) => true
    | .instr .rstrep => true
    | _ => decide (∃ p : Fin 12, k.val = 7 + 4 * p.val)) = true := by decide

/-- The words of the microprogram before END, by kind. -/
theorem microprogram_kinds {k : Nat} (hk : k < 63) :
    (∃ v, decodeWord microprogram[k] = .instr (.setclk .micro v)) ∨
    (∃ v, decodeWord microprogram[k] = .instr (.setlat .micro v)) ∨
    (∃ n, decodeWord microprogram[k] = .instr (.wait .micro n)) ∨
    decodeWord microprogram[k] = .instr .rstrep ∨ ∃ p : Fin 12, k = 7 + 4 * p.val := by
  have hrow := microprogram_table ⟨k, hk⟩
  generalize decodeWord (microprogram[k]'(by omega)) = d at *
  simp only at hrow
  split at hrow
  · next v => exact .inl ⟨v, rfl⟩
  · next v => exact .inr (.inl ⟨v, rfl⟩)
  · next n => exact .inr (.inr (.inl ⟨n, rfl⟩))
  · exact .inr (.inr (.inr (.inl rfl)))
  · exact .inr (.inr (.inr (.inr (of_decide_eq_true hrow))))

/-- Before END a running poll has a next micro-operation, and moves on by one. -/
theorem InPoll.sequencerStep {s : State} {k : Nat} (h : InPoll s k) (hr : s.refused = false) (hk : k < 63) :
    ∃ t, Sys2Proof.Machine.sequencerStep s = .next t ∧ InPoll t (k + 1) ∧ t.refused = false := by
  have hf := h.fetch (by omega)
  rcases microprogram_kinds hk with ⟨v, h1⟩ | ⟨v, h1⟩ | ⟨n, h1⟩ | h1 | ⟨p, hp⟩
  · exact ⟨_, sequencerStep_setclk h.cfg (hf.trans h1), h.afterClk v, hr⟩
  · exact ⟨_, sequencerStep_setlat h.cfg (hf.trans h1), h.afterLat v, hr⟩
  · exact ⟨_, sequencerStep_wait (hf.trans h1), h.afterWt n, hr⟩
  · exact ⟨_, sequencerStep_rstrep (hf.trans h1), h.afterRst, hr⟩
  · exact ⟨_, h.sampleStep p hp, h.afterSample p, by simpa [State.afterSample] using hr⟩

/-- A poll at index `j` is at index `j + k` after `k` steps, up to the last. -/
theorem InPoll.run (k : Nat) {j : Nat} {s : State} (h : InPoll s j) (hr : s.refused = false) (hk : j + k ≤ 63) :
    ∃ u, Host.Core.run Sys2Proof.core k s = .next u ∧ InPoll u (j + k) ∧ u.refused = false := by
  induction k with
  | zero => exact ⟨s, rfl, h, hr⟩
  | succ k ih =>
    obtain ⟨t, ht, hi, hr'⟩ := ih (by omega)
    obtain ⟨u, hu, hi', hr''⟩ := hi.sequencerStep hr' (by omega)
    exact ⟨u, run_trans ht (run_one hr' hi.busy hu), hi', hr''⟩

/-! ### Blocks of the microprogram, as steps -/

theorem InPoll.runHeader {s : State} (h : InPoll s 0) (hr : s.refused = false) :
    Host.Core.run Sys2Proof.core 4 s = .next s.afterHeader := by
  have h1 := h.afterClk .high
  have h2 := h1.afterLat .high
  have h3 := h2.afterRst
  exact run_trans (run_trans (run_trans
    (run_one hr h.busy (sequencerStep_setclk (v := .high) h.cfg ((h.fetch (by omega)).trans rfl)))
    (run_one hr h1.busy (sequencerStep_setlat (v := .high) h1.cfg ((h1.fetch (by omega)).trans rfl))))
    (run_one hr h2.busy (sequencerStep_rstrep ((h2.fetch (by omega)).trans rfl))))
    (run_one hr h3.busy (sequencerStep_setlat (v := .low) h3.cfg ((h3.fetch (by omega)).trans rfl)))

theorem InPoll.runPulse {k : Nat} {s : State} (h : InPoll s k) (hr : s.refused = false) (hk : k + 2 < 64)
    (w0 : decodeWord microprogram[k] = .instr (.setclk .micro .high))
    (w1 : decodeWord microprogram[k + 1] = .instr (.wait .micro Config.tPulse))
    (w2 : decodeWord microprogram[k + 2] = .instr (.setclk .micro .low)) :
    Host.Core.run Sys2Proof.core 3 s = .next s.afterPulse := by
  have h1 := h.afterClk .high
  have h2 := h1.afterWt Config.tPulse
  exact run_trans (run_trans
    (run_one hr h.busy (sequencerStep_setclk h.cfg ((h.fetch (by omega)).trans w0)))
    (run_one hr h1.busy (sequencerStep_wait ((h1.fetch (by omega)).trans w1))))
    (run_one hr h2.busy (sequencerStep_setclk h2.cfg ((h2.fetch hk).trans w2)))

theorem InPoll.runPosition {k : Nat} {s : State} (p : Fin 12) (h : InPoll s k) (hr : s.refused = false)
    (hk : k = 4 + 4 * p.val) : Host.Core.run Sys2Proof.core 4 s = .next (s.afterPosition p) := by
  have h3 := h.afterPulse
  refine run_trans (h.runPulse hr (by omega) (by subst hk; fin_cases p <;> rfl) (by subst hk; fin_cases p <;> rfl)
    (by subst hk; fin_cases p <;> rfl)) (run_one (by rw [State.afterPulse_eq]; exact hr) h3.busy ?_)
  exact h3.sampleStep p (by omega)

theorem InPoll.sampledTo {s : State} (h : InPoll s 4) {k : Nat} (hk : k ≤ 12) : InPoll (s.sampledTo k) (4 + 4 * k) := by
  induction k with
  | zero => simpa using h
  | succ k ih => rw [s.sampledTo_succ (by omega)]; exact (ih (by omega)).afterPosition _

theorem InPoll.runPositions {s : State} (h : InPoll s 4) (hr : s.refused = false) {k : Nat} (hk : k ≤ 12) :
    Host.Core.run Sys2Proof.core (4 * k) s = .next (s.sampledTo k) := by
  induction k with
  | zero => rw [State.sampledTo_zero]; rfl
  | succ k ih =>
    rw [s.sampledTo_succ (by omega)]
    exact run_trans (ih (by omega)) ((h.sampledTo (by omega)).runPosition ⟨k, by omega⟩ (by simpa using hr) rfl)

end Sys2Proof.Machine
end

