-- ==== Sys2Proof/Laws/Ports.lean ====
section
/-! SUPPORT. The port view: what a quiet cycle does while a WAIT is passing, and runs of cycles chained. -/

namespace Sys2Proof.Machine

/-- While a WAIT is passing, a quiet cycle performs nothing: the data lines take their levels, and a tick is consumed. -/
theorem PortBlock.cycle_waiting {m : PinMap} {i : PortInputs} {p : PortBlock} (hr : p.state.refused = false)
    (hq : i.quiet = true) (ht : p.ticks ≠ 0) :
    PortBlock.cycle m i p =
      .next { state := p.state.withDataIn i.dataIn, ticks := p.ticks - i.unitTick.toNat } := by
  simp only [PortInputs.quiet, Bool.and_eq_true, Bool.not_eq_true'] at hq
  simp [PortBlock.cycle, hr, portOperation, hq.1, hq.2, ht, ticksAfter]

theorem PortBlock.run_append {m : PinMap} {a : List PortInputs} {p q : PortBlock} (b : List PortInputs)
    (h : PortBlock.run m a p = .next q) : PortBlock.run m (a ++ b) p = PortBlock.run m b q := by
  induction a generalizing p with
  | nil => cases h; rfl
  | cons i a ih =>
    simp only [PortBlock.run, List.cons_append] at h ⊢
    split at h
    · exact ih h
    · cases h
    · cases h

end Sys2Proof.Machine
end

