-- ==== Sys2Proof/Tests/Slice0.lean ====
section
/-! SUPPORT. The model's own tests. Expected results are the spec's: 95_test_vectors.md, 30_encoding.md, and hand reading
of the rules named. The second half holds one named witness for the hypotheses of each statement. -/

namespace Sys2Proof.Tests

open Sys2Proof Sys2Proof.Machine

/-! ### States to test on -/

/-- Three data lines are wired, and the middle one is read (95_test_vectors.md section 2.2, N_DATA = 3). -/
def padMap : PinMap := { clockPin := 9, latchPin := 10, dataPins := [3, 4, 5], dataRead := 1 }

/-- A move that drives the read line, with another line driven Low and one floating. -/
def answer (v : Level) : List Drive := [.drive .low, .drive v, .float]

/-- A configured, idle block, as CONFIGURE leaves it, with a script of the environment's moves. -/
def ready (env : List (List Drive)) : State :=
  { State.reset with
    pinmap := padMap, dirClock := .output, dirLatch := .output
    dirData := [.input, .input, .input], pullupData := [.enabled, .enabled, .enabled]
    data := [.high, .high, .high], clock := .low, latch := .low, cfg := true, tr := [.cfg], env := env }

/-- A poll in progress, about to perform the word at `k`. -/
def polling (k : BitVec 6) (env : List (List Drive)) : State := { ready env with busy := true, upc := k }

/-- What a test looks at in a next state; false for a fault or a refusal. -/
def next? (o : Out) (p : State → Bool) : Bool :=
  match o with
  | .next t => p t
  | .fault _ => false
  | .refused _ => false

/-- The reason of a refusal. -/
def reason? (o : Out) : Option Refusal :=
  match o with
  | .next _ => none
  | .fault _ => none
  | .refused r => some r

/-- The sample vector with a packing (30_encoding.md R72): bit p is position p. -/
def unpack (n : Nat) : SampleVector := Vector.ofFn fun p => n.testBit p.val

/-! ### Well-formedness: an ill-formed term for each check, refused -/

theorem test_wf_micro_wait_count_has_four_bits :
    (Instr.wait .micro 16).wf = false ∧ (Instr.wait .micro 15).wf = true ∧ (Instr.wait .direct 16).wf = true := by decide

theorem test_wf_mapping_needs_a_data_line :
    (Instr.configure { padMap with dataPins := [], dataRead := 0 }).wf = false := by decide

theorem test_wf_read_line_is_wired :
    (Instr.configure { padMap with dataRead := 3 }).wf = false ∧
    (Instr.configure { padMap with dataRead := 2 }).wf = true := by decide

theorem test_step_does_not_admit_an_ill_formed_mapping :
    reason? (step { State.reset with calls := [.configure { padMap with dataRead := 3 }] }) = some .notACall := by decide

theorem test_step_does_not_admit_a_micro_operation_as_a_call :
    reason? (step { ready [] with calls := [.rstrep] }) = some .notACall ∧
    reason? (step { ready [] with calls := [.serialize] }) = some .notACall := by decide

/-! ### Decoding: words written bit by bit from 30_encoding.md section 6 -/

theorem test_decode_endPoll : decodeWord 0b00000000 = .instr .endPoll := by decide
theorem test_decode_setclk :
    decodeWord 0b00010000 = .instr (.setclk .micro .low) ∧ decodeWord 0b00010001 = .instr (.setclk .micro .high) := by
  decide
theorem test_decode_setlat :
    decodeWord 0b00100000 = .instr (.setlat .micro .low) ∧ decodeWord 0b00100001 = .instr (.setlat .micro .high) := by
  decide
theorem test_decode_wait :
    decodeWord 0b00110000 = .instr (.wait .micro 0) ∧ decodeWord 0b00110110 = .instr (.wait .micro 6) ∧
    decodeWord 0b00111111 = .instr (.wait .micro 15) := by decide
theorem test_decode_sample_0_to_5 :
    decodeWord 0b01000000 = .instr .sample0 ∧ decodeWord 0b01000001 = .instr .sample1 ∧
    decodeWord 0b01000010 = .instr .sample2 ∧ decodeWord 0b01000011 = .instr .sample3 ∧
    decodeWord 0b01000100 = .instr .sample4 ∧ decodeWord 0b01000101 = .instr .sample5 := by decide
theorem test_decode_sample_6_to_11 :
    decodeWord 0b01000110 = .instr .sample6 ∧ decodeWord 0b01000111 = .instr .sample7 ∧
    decodeWord 0b01001000 = .instr .sample8 ∧ decodeWord 0b01001001 = .instr .sample9 ∧
    decodeWord 0b01001010 = .instr .sample10 ∧ decodeWord 0b01001011 = .instr .sample11 := by decide
theorem test_decode_rstrep : decodeWord 0b01010000 = .instr .rstrep := by decide

/-- The reserved words of 95_test_vectors.md section 2.3. -/
theorem test_decode_reserved :
    ∀ w ∈ [0x01#8, 0x12#8, 0x1F#8, 0x22#8, 0x4C#8, 0x4F#8, 0x51#8, 0x60#8, 0xFF#8], decodeWord w = .reserved w := by
  decide

theorem test_decode_stream :
    decode [0x21#8, 0x50#8] = (.instr (.setlat .micro .high), [0x50#8]) ∧ decode [] = (.noWord, []) := by decide

theorem test_encode :
    encode (.setclk .micro .high) = some 0b00010001#8 ∧ encode (.wait .micro 6) = some 0b00110110#8 ∧
    encode .sample11 = some 0b01001011#8 ∧ encode (.wait .micro 16) = none ∧ encode (.toggle .micro) = none := by decide

theorem test_decodeTableWord :
    decodeTableWord 8 0b01000101 = some .sample5 ∧ decodeTableWord 8 0x60 = none ∧ decodeTableWord 0 0 = none := by decide

/-- Word counts of the microprogram (95_test_vectors.md section 2.4). -/
theorem test_microprogram_counts :
    microprogramBytes.count 0x11 = 17 ∧ microprogramBytes.count 0x10 = 15 ∧ microprogramBytes.count 0x31 = 15 := by decide

/-! ### The report builder: the derived vectors of 95_test_vectors.md section 2.1, default bits -/

/-- A row of the table: the packing, and the four bytes of RB. -/
def rowHolds (row : Nat × List Byte) : Bool :=
  decide (wireFormat (buildWith Config.defaultBit (unpack row.1)) = row.2)

theorem test_build_single_positions :
    [(0x000, [0x00#8, 0x00#8, 0x00#8, 0x00#8]), (0x001, [0x00#8, 0x00#8, 0x01#8, 0x00#8]),
     (0x002, [0x00#8, 0x00#8, 0x02#8, 0x00#8]), (0x004, [0x00#8, 0x00#8, 0x04#8, 0x00#8]),
     (0x008, [0x00#8, 0x00#8, 0x08#8, 0x00#8]), (0x010, [0x00#8, 0x81#8, 0x00#8, 0x00#8]),
     (0x020, [0x00#8, 0x7F#8, 0x00#8, 0x00#8]), (0x040, [0x81#8, 0x00#8, 0x00#8, 0x00#8]),
     (0x080, [0x7F#8, 0x00#8, 0x00#8, 0x00#8]), (0x100, [0x00#8, 0x00#8, 0x00#8, 0x01#8]),
     (0x200, [0x00#8, 0x00#8, 0x00#8, 0x02#8]), (0x400, [0x00#8, 0x00#8, 0x00#8, 0x04#8]),
     (0x800, [0x00#8, 0x00#8, 0x00#8, 0x08#8])].all rowHolds = true := by decide

theorem test_build_combinations :
    [(0x030, [0x00#8, 0x7F#8, 0x00#8, 0x00#8]), (0x0C0, [0x7F#8, 0x00#8, 0x00#8, 0x00#8]),
     (0x050, [0x81#8, 0x81#8, 0x00#8, 0x00#8]), (0x090, [0x7F#8, 0x81#8, 0x00#8, 0x00#8]),
     (0x060, [0x81#8, 0x7F#8, 0x00#8, 0x00#8]), (0x821, [0x00#8, 0x7F#8, 0x01#8, 0x08#8]),
     (0xF0F, [0x00#8, 0x00#8, 0x0F#8, 0x0F#8]), (0x7FF, [0x7F#8, 0x7F#8, 0x0F#8, 0x07#8]),
     (0x555, [0x81#8, 0x81#8, 0x05#8, 0x05#8]), (0xAAA, [0x7F#8, 0x7F#8, 0x0A#8, 0x0A#8]),
     (0xFFF, [0x7F#8, 0x7F#8, 0x0F#8, 0x0F#8])].all rowHolds = true := by decide

/-- BUILD gives its report to the caller and leaves the registers (42_report_builder.md R163). -/
theorem test_build_gives_the_report :
    next? (exec (.build (unpack 0x030)) (ready [])) (fun t => decide (t.y = 0) && decide (t.results.length = 1)) = true := by
  decide

/-- RSTREP corner (95_test_vectors.md section 2.1). -/
theorem test_rstrep_clears_every_field :
    next? (exec .rstrep { polling 2 [] with x := 127, y := 127, btn := 0xFFFF, sv := Vector.replicate 12 true })
      (fun t => decide (t.x = 0) && decide (t.y = 0) && decide (t.btn = 0) &&
        decide (t.sv = Vector.replicate 12 false) && decide (t.upc = 3)) = true := by decide

theorem test_serialize_is_little_endian :
    next? (exec .serialize { ready [] with x := 0x7F, y := 0x81, btn := 0x0801 })
      (fun t => decide (t.reportBytes = [some 0x7F#8, some 0x81#8, some 0x01#8, some 0x08#8])) = true := by decide

/-! ### The line driver: 95_test_vectors.md section 2.2 -/

theorem test_configure_from_power_on :
    next? (exec (.configure padMap) State.reset)
      (fun t => t.cfg && decide (t.clock = .low) && decide (t.latch = .low) && decide (t.tr = [.cfg])) = true := by decide

theorem test_configure_twice : reason? (exec (.configure padMap) (ready [])) = some .reconfigure := by decide

theorem test_setclk_same_level_still_stands_in_the_trace :
    next? (exec (.setclk .direct .low) (ready []))
      (fun t => decide (t.clock = .low) && decide (t.tr = [.cfg, .clk .low]) && decide (t.upc = 0)) = true := by decide

theorem test_setlat_leaves_clock :
    next? (exec (.setlat .direct .high) (ready []))
      (fun t => decide (t.latch = .high) && decide (t.clock = .low) && decide (t.tr = [.cfg, .lat .high])) = true := by
  decide

theorem test_wait_counts :
    next? (exec (.wait .direct 6) { ready [] with t := 5 }) (fun t => decide (t.t = 11)) = true ∧
    next? (exec (.wait .direct 0) { ready [] with t := 5 }) (fun t => decide (t.tr = [.cfg, .wt 0])) = true := by decide

/-- Only the line at `data_read` counts: the others are Low here. -/
theorem test_readdata_reads_one_line :
    next? (exec .readdata (ready [answer .high])) (fun t => decide (t.results = [.sample false])) = true ∧
    next? (exec .readdata (ready [answer .low])) (fun t => decide (t.results = [.sample true])) = true := by decide

theorem test_readdata_with_nothing_connected :
    next? (exec .readdata (ready [[]])) (fun t => decide (t.tr = [.cfg, .rd false])) = true := by decide

/-! ### The poller: 95_test_vectors.md section 2.4 -/

theorem test_toggle_from_high :
    next? (exec (.toggle .direct) { ready [] with clock := .high })
      (fun t => decide (t.clock = .low) && decide (t.t = 1) && decide (t.tr = [.cfg, .clk .high, .wt 1, .clk .low])) =
      true := by decide

theorem test_toggle_micro_is_three_words :
    next? (exec (.toggle .micro) (polling 52 [])) (fun t => decide (t.upc = 55)) = true := by decide

theorem test_sample0_line_low :
    next? (step (polling 7 [answer .low]))
      (fun t => t.sv[0] && decide (t.upc = 8) && decide (t.tr = [.cfg, .rd true])) = true := by decide

theorem test_sample0_sets_the_cross_bit :
    exec .sample0 (polling 7 [answer .low]) = .next ((polling 7 [answer .low]).afterSample 0) ∧
    ((polling 7 [answer .low]).afterSample 0).btn = setBit 0 (Config.buttonBit .cross) := ⟨rfl, rfl⟩

theorem test_sample11_line_high :
    next? (step (polling 51 [answer .high])) (fun t => !t.sv[11] && decide (t.btn = 0) && decide (t.upc = 52)) = true := by
  decide

theorem test_sample4_and_5_write_y :
    next? (exec .sample4 { polling 23 [answer .low] with y := 127 }) (fun t => decide (t.y.toInt = -127)) = true ∧
    next? (exec .sample5 { polling 27 [answer .low] with y := 0x81 }) (fun t => decide (t.y.toInt = 127)) = true := by
  decide

theorem test_sample6_and_7_write_x :
    next? (exec .sample6 (polling 31 [answer .low])) (fun t => decide (t.x.toInt = -127) && decide (t.y = 0)) = true ∧
    next? (exec .sample7 { polling 35 [answer .high] with x := 0x81 }) (fun t => decide (t.x.toInt = -127)) = true := by
  decide

/-- Each of the other button positions records its own entry. -/
theorem test_samples_record_their_position :
    next? (exec .sample1 (polling 11 [answer .low])) (fun t => decide (t.sv = unpack 0x002)) = true ∧
    next? (exec .sample2 (polling 15 [answer .low])) (fun t => decide (t.sv = unpack 0x004)) = true ∧
    next? (exec .sample3 (polling 19 [answer .low])) (fun t => decide (t.sv = unpack 0x008)) = true ∧
    next? (exec .sample8 (polling 39 [answer .low])) (fun t => decide (t.sv = unpack 0x100)) = true := by decide

theorem test_samples_9_to_11_record_their_position :
    next? (exec .sample9 (polling 43 [answer .low])) (fun t => decide (t.sv = unpack 0x200)) = true ∧
    next? (exec .sample10 (polling 47 [answer .low])) (fun t => decide (t.sv = unpack 0x400)) = true ∧
    next? (exec .sample11 (polling 51 [answer .low])) (fun t => decide (t.sv = unpack 0x800)) = true := by decide

theorem test_end_hands_over_and_stays :
    next? (step { polling 63 [] with x := 0x7F, y := 0x81, btn := 0x0801 })
      (fun t => !t.busy && decide (t.upc = 63) && decide (t.reportWord = some 0x0801817F#32)) = true := by decide

theorem test_step_rstrep_at_index_2 : next? (step (polling 2 [])) (fun t => decide (t.upc = 3)) = true := by decide

theorem test_withFetchWord_runs_the_word_first :
    next? (step (State.reset.withFetchWord 8 0x21)) (fun t => decide (t.latch = .high) && decide (t.upc = 1)) = true := by
  decide

theorem test_poll_refusals :
    reason? (exec .poll State.reset) = some .notConfigured ∧ reason? (exec .poll (polling 0 [])) = some .busy ∧
    reason? (step { ready [] with rom := microprogram.set 0 0x60, busy := true }) = some .illegalMicroOp := by decide

/-! ### What a trace says -/

/-- No edge is counted across `Cfg`, which leaves both lines Low (40_gpio_line_driver.md R100). -/
theorem test_no_edge_across_cfg :
    fallingEdges .clock .high [.cfg, .clk .low] = 0 ∧ risingEdges .clock .high [.cfg, .clk .high] = 1 ∧
    fallingEdges .latch .high [.lat .high, .cfg, .lat .low] = 0 := by decide

/-! ### The port view: 10_state.md section 10 -/

/-- The report is not valid during a later poll. -/
theorem test_port_report_is_not_valid_while_busy :
    ((polling 63 []).afterEnd).outputs.report = some 0 ∧ ((polling 63 []).afterEnd).beginPoll.outputs.report = none := by
  decide

/-- The settle wait at index 61 has six units to pass, and the next word is performed in the cycle after the sixth tick. -/
theorem test_port_settle_wait_takes_six_ticks :
    (match PortBlock.run padMap (List.replicate 8 ⟨[.high], false, false, true⟩) { state := polling 61 [], ticks := 0 } with
      | .next q => decide (q.ticks = 0) && decide (q.state.upc = 63) && decide (q.state.t = 6)
      | .fault _ => false
      | .refused _ => false) = true := by decide

/-! ### The host boundary: 95_test_vectors.md section 2.5 -/

theorem test_onCreateReport_refusals :
    reason? (exec .onCreateReport State.reset) = some .notConfigured ∧
    reason? (exec .onCreateReport (polling 0 [])) = some .busy := by decide

theorem test_onHostReport_changes_nothing : exec (.onHostReport [1, 2, 3]) (ready []) = .next (ready []) := rfl

theorem test_lifecycle_changes_nothing : exec (.lifecycle .controlRequest) (ready []) = .next (ready []) := rfl

/-! ### Witnesses: what meets the hypotheses of each statement -/

/-- A configured, idle block holds the given microprogram and is not marked. -/
theorem test_ready (env : List (List Drive)) :
    (ready env).cfg = true ∧ (ready env).busy = false ∧ (ready env).rom = microprogram ∧ (ready env).refused = false :=
  ⟨rfl, rfl, rfl, rfl⟩

theorem test_ready_lines (env : List (List Drive)) : LinesConfigured (ready env) :=
  ⟨rfl, rfl, rfl, rfl, rfl, rfl⟩

theorem test_polling (k : BitVec 6) (env : List (List Drive)) :
    (polling k env).cfg = true ∧ (polling k env).busy = true ∧ (polling k env).refused = false := ⟨rfl, rfl, rfl⟩

theorem test_witness_StepRunsTheFetchedMicroOp :
    (polling 63 []).refused = false ∧ (polling 63 []).busy = true ∧ (polling 63 []).fetch = .instr .endPoll ∧
    State.fetch { polling 63 [] with rom := microprogram.set 63 0x4C } = .reserved 0x4C := by decide

theorem test_witness_StepRunsTheNextHostCall :
    (ready []).refused = false ∧ (ready []).busy = false ∧ admitted .poll = true ∧
    admitted (.configure padMap) = true ∧ admitted .serialize = false ∧ (ready []).calls = [] := by decide

/-- A marked state; an instruction that goes on from an unconfigured state; a step that goes on. -/
theorem test_witness_MarkedStateHasNoStepAndNoInstructionTouchesTheMark :
    State.reset.markRefused.refused = true ∧ exec (.configure padMap) State.reset =
      .next ((State.reset.configureLines padMap).emit .cfg) ∧ step State.reset = .next State.reset := ⟨rfl, rfl, rfl⟩

/-- A run that goes on, and a step that is refused. -/
theorem test_witness_RunEndsUnmarkedExactlyWhenNothingWasRefused :
    State.reset.refused = false ∧ Host.Core.run Sys2Proof.core 2 State.reset = .next State.reset ∧
    step { State.reset with calls := [.poll] } = .refused .notConfigured := ⟨rfl, rfl, rfl⟩

theorem test_witness_DecodeInvertsEncode :
    (Instr.wait .micro 15).wf = true ∧ (Instr.wait .micro 15).isMicroOp = true ∧ Instr.sample11.isMicroOp = true ∧
    decodeWord 0x3F = .instr (.wait .micro 15) ∧ Instr.poll.isMicroOp = false := by decide

theorem test_witness_MicroprogramFollowsTheIndexArithmetic : 0x36#8 ∈ microprogramBytes := by decide

theorem test_witness_ConfigureInitialisesTheLinesOnce : State.reset.cfg = false ∧ (ready []).cfg = true := ⟨rfl, rfl⟩

/-- Both settings, both refusals, and the index at both ends of its range. -/
theorem test_witness_SetclkDrivesClockAndNothingElse :
    (polling 0 []).cfg = true ∧ (polling 0 []).upc ≠ 63 ∧ (polling 62 []).upc ≠ 63 ∧ (ready []).busy = false ∧
    State.reset.cfg = false ∧ (polling 0 []).busy = true := by decide

theorem test_witness_SetlatDrivesLatchAndNothingElse :
    (polling 1 []).cfg = true ∧ (polling 1 []).upc ≠ 63 ∧ (polling 62 []).upc ≠ 63 ∧ (ready []).busy = false ∧
    State.reset.cfg = false ∧ (polling 1 []).busy = true := by decide

theorem test_witness_WaitAddsItsCountToTime :
    (polling 61 []).upc ≠ 63 ∧ (ready []).cfg = true ∧ (ready []).busy = false ∧ State.reset.cfg = false ∧
    (polling 61 []).busy = true ∧ 15 < 16 := by decide

theorem test_witness_ReaddataSamplesTheReadLine :
    (ready [answer .low]).cfg = true ∧ (ready [answer .low]).busy = false ∧ (ready [answer .low]).pinmap.wf = true ∧
    (ready [answer .low]).moveAt 0 = some (answer .low) ∧ (ready [answer .low]).answerUnder (answer .low) = some .low ∧
    (ready [[]]).answerUnder [] = some .high ∧ State.reset.cfg = false ∧ (polling 0 []).busy = true := by decide

theorem test_witness_ToggleIsOnePulse :
    (ready []).cfg = true ∧ (ready []).busy = false ∧ (polling 60 []).upc.toNat + 3 ≤ 63 ∧ State.reset.cfg = false ∧
    (polling 60 []).busy = true := by decide

theorem test_witness_ButtonSamplesSetTheirBit :
    (polling 51 [answer .low]).cfg = true ∧ (polling 51 [answer .low]).upc ≠ 63 ∧
    (polling 51 [answer .low]).pinmap.wf = true ∧ (polling 51 [answer .low]).moveAt 0 = some (answer .low) ∧
    (polling 51 [answer .low]).answerUnder (answer .low) = some .low := by decide

theorem test_witness_DirectionSamplesOverwriteTheirAxis :
    (polling 23 [[]]).cfg = true ∧ (polling 23 [[]]).upc ≠ 63 ∧ (polling 23 [[]]).pinmap.wf = true ∧
    (polling 23 [[]]).moveAt 0 = some [] ∧ (polling 23 [[]]).answerUnder [] = some .high := by decide

theorem test_witness_EndHandsTheReportOver : 4 ≤ 4 := Nat.le_refl 4

theorem test_witness_PollRunsOneFrame :
    (ready []).cfg = true ∧ (ready []).busy = false ∧ (ready []).rom = microprogram ∧ 4 ≤ 4 := ⟨rfl, rfl, rfl, by decide⟩

theorem test_witness_PollWaitsTwentyOneUnits :
    (ready []).cfg = true ∧ (ready []).busy = false ∧ (ready []).rom = microprogram := ⟨rfl, rfl, rfl⟩

theorem test_witness_PollCompletesInExactlySixtyFourSteps :
    (ready []).cfg = true ∧ (ready []).busy = false ∧ (ready []).rom = microprogram ∧ (ready []).refused = false ∧
    0 < 64 ∧ 63 < 64 := ⟨rfl, rfl, rfl, rfl, by decide, by decide⟩

/-- A block whose environment makes the same move at every read. -/
def settled (ds : List Drive) : State := { ready [] with envRest := some ds }

/-- Nothing drives the read line, ever. -/
theorem test_witness_DisconnectedPollIsNeutral_undriven :
    LinesConfigured (settled []) ∧ Undriven (settled []) ∧ Disconnected (settled []) :=
  ⟨⟨rfl, rfl, rfl, rfl, rfl, rfl⟩, fun _ => ⟨[], rfl, rfl⟩, fun j _ _ => by
    simp only [State.answerAt, settled, ready, List.drop_nil]; rfl⟩

/-- The read line is driven High, ever. -/
theorem test_witness_DisconnectedPollIsNeutral_drivenHigh :
    (settled (answer .high)).pinmap.wf = true ∧ Disconnected (settled (answer .high)) :=
  ⟨rfl, fun j _ _ => by simp only [State.answerAt, settled, ready, List.drop_nil]; rfl⟩

/-- Twelve moves of a connected controller with nothing pressed. -/
theorem test_witness_DisconnectedPollIsNeutral_idlePad :
    IdealAnswers (ready (List.replicate 12 (answer .high))) (Vector.replicate 12 false) := by
  intro p _ _; fin_cases p <;> rfl

theorem test_witness_IdealPollReportsItsVector :
    (ready (answer .low :: List.replicate 11 (answer .high))).pinmap.wf = true ∧
    IdealAnswers (ready (answer .low :: List.replicate 11 (answer .high))) (unpack 0x001) :=
  ⟨rfl, by intro p _ _; fin_cases p <;> rfl⟩

theorem test_witness_ThreePaddingPulsesFollowTheLastSample :
    (ready []).cfg = true ∧ (ready []).busy = false ∧ (ready []).rom = microprogram := ⟨rfl, rfl, rfl⟩

theorem test_witness_PollSettlesAndRestsClockHigh :
    (ready []).cfg = true ∧ (ready []).busy = false ∧ (ready []).rom = microprogram ∧ (ready []).refused = false :=
  test_ready []

/-- Both starting levels of CLOCK, LATCH Low, and the first and last position. -/
theorem test_witness_ClockEdgesOfOnePoll :
    (ready []).cfg = true ∧ (ready []).busy = false ∧ (ready []).rom = microprogram ∧ (ready []).clock = .low ∧
    State.clock { ready [] with clock := .high } = .high ∧ (ready []).latch = .low ∧ 0 < 12 ∧ 11 < 12 :=
  ⟨rfl, rfl, rfl, rfl, rfl, rfl, by decide, by decide⟩

theorem test_witness_RegistersAreBuildOfTheSamplesSoFar :
    (ready []).cfg = true ∧ (ready []).busy = false ∧ (ready []).rom = microprogram ∧ (ready []).refused = false ∧
    0 ≤ 12 ∧ 12 ≤ 12 ∧ 11 ≤ (11 : Fin 12).val := ⟨rfl, rfl, rfl, rfl, by decide, by decide, by decide⟩

/-- A block with lines configured has the invariant. -/
theorem test_ready_inv (env : List (List Drive)) : Inv (ready env) where
  rom := rfl
  busyConfigured := fun _ => rfl
  lines := fun _ => test_ready_lines env
  unconfigured := nofun
  configuredOnce := fun _ => ⟨[], rfl, by simp⟩
  clockHeld := fun _ => rfl
  latchHeld := fun _ => rfl
  time := rfl
  axisX := rfl
  axisY := rfl
  mask := maskLegal_zero
  memory := rfl
  buffer := .inl rfl
  returned := nofun

theorem test_witness_PollInProgressIsNeverHeldUp :
    Inv (polling 0 []) ∧ (polling 0 []).refused = false ∧ (polling 0 []).busy = true :=
  ⟨{ test_ready_inv [] with busyConfigured := fun _ => rfl, lines := fun _ => ⟨rfl, rfl, rfl, rfl, rfl, rfl⟩ }, rfl, rfl⟩

theorem test_witness_RstrepMakesTheReportNeutral : (polling 2 []).upc ≠ 63 := by decide

/-- A bit of BTN that no button owns. -/
theorem test_witness_BuildIsTheClosedFormOfTheMapping : ∀ b : Button, Config.buttonBit b ≠ Config.bitOrder 4 := by
  intro b h
  have h' := Config.bitOrder.injective h
  revert h'
  cases b <;> decide

/-- All four rows of both axes' tables. -/
theorem test_witness_LaterDirectionWins :
    ∀ u ∈ [false, true], ∀ d ∈ [false, true], ∃ sv : SampleVector, sv[4] = u ∧ sv[5] = d ∧ sv[6] = u ∧ sv[7] = d :=
  fun u _ d _ => ⟨#v[false, false, false, false, u, d, u, d, false, false, false, false], rfl, rfl, rfl, rfl⟩

theorem test_witness_ButtonBitsAreIndependent :
    Config.buttonBit .square ≠ Config.buttonBit .cross ∧ 4 ≤ (4 : Fin 12).val ∧ (7 : Fin 12).val ≤ 7 :=
  ⟨fun h => absurd (Config.buttonBit_inj.1 h) (by decide), by decide, by decide⟩

/-- Both sides of the equivalence are met: the neutral report is BUILD of no button, and legal. -/
theorem test_witness_ImageOfBuildIsTheLegalReports :
    buildReport (Vector.replicate 12 false) = neutralReport ∧ maskLegal neutralReport.btn := ⟨rfl, maskLegal_zero⟩

theorem test_witness_SerializeWritesTheWireFormat : 4 ≤ 4 := Nat.le_refl 4

theorem test_witness_OnCreateReportReturnsThePollsReport :
    (ready []).cfg = true ∧ (ready []).busy = false ∧ (ready []).rom = microprogram ∧ State.reset.cfg = false ∧
    (polling 0 []).cfg = true ∧ (polling 0 []).busy = true := ⟨rfl, rfl, rfl, rfl, rfl, rfl⟩

/-- Two different states, with different pasts and registers; frames of one sample vector have equal samples. -/
theorem test_witness_ReportDependsOnThisPollsSamplesAlone :
    (ready []).rom = microprogram ∧ State.rom { ready [] with clock := .high, x := 127, t := 21 } = microprogram ∧
    samplesRead (frameEvents (unpack 0x030)) = samplesRead (frameEvents (unpack 0x030)) := ⟨rfl, rfl, rfl⟩

theorem test_witness_UnconfiguredBlockRefuses : State.reset.cfg = false := rfl

theorem test_witness_BusyBlockRefusesASecondCaller : (polling 0 []).cfg = true ∧ (polling 0 []).busy = true := ⟨rfl, rfl⟩

/-- An unconfigured state, and an instruction that goes on from a configured one. -/
theorem test_witness_ConfigurationIsWrittenOnce :
    State.reset.cfg = false ∧ 2 < padMap.nData ∧ (ready []).cfg = true ∧
    exec (.wait .direct 1) (ready []) = .next (((ready []).addTime 1).emit (.wt 1)) := ⟨rfl, by decide, rfl, rfl⟩

/-- An instruction that writes neither line; a write in each setting; an unconfigured state. -/
theorem test_witness_LineHoldsItsLevelUntilTheNextWrite :
    exec (.wait .direct 1) (ready []) = .next (((ready []).addTime 1).emit (.wt 1)) ∧
    (ready []).busy = decide (Setting.direct = .micro) ∧ (polling 0 []).busy = decide (Setting.micro = .micro) ∧
    State.reset.cfg = false := ⟨rfl, rfl, rfl, rfl⟩

theorem test_witness_BufferIsWrittenOnlyAtEnd :
    exec .rstrep (polling 2 []) = .next (polling 2 []).afterRst := rfl

theorem test_witness_DataRegistersChangeOnlyByTheirWriters :
    exec .sample4 (polling 23 [answer .low]) = .next ((polling 23 [answer .low]).afterSample 4) := rfl

theorem test_witness_TraceOnlyGrowsAndTimeCountsItsWaits :
    exec .endPoll (polling 63 []) = .next (polling 63 []).afterEnd := rfl

/-- Another environment that agrees on the read line alone, and other levels on the data lines. -/
theorem test_witness_ExtraDataLinesHaveNoEffect :
    (ready [answer .low]).pinmap.wf = true ∧ [[Drive.float, .drive .low, .drive .high]] ≠ [answer .low] ∧
    ([[Drive.float, .drive .low, .drive .high]].map fun ds => driveOf ds padMap.dataRead) =
      ((ready [answer .low]).env.map fun ds => driveOf ds padMap.dataRead) ∧
    ((some [Drive.drive .low]).map fun ds => driveOf ds padMap.dataRead) =
      ((settled []).envRest.map fun ds => driveOf ds padMap.dataRead) := by decide

/-- A configured block whose poll has ended, with RB written; a busy one; one that no poll has ended in. -/
theorem test_witness_PortOutputsShowTheBlock :
    (polling 63 []).afterEnd.busy = false ∧ .endPoll ∈ (polling 63 []).afterEnd.tr ∧
    (polling 63 []).afterEnd.reportBytes = [some 0, some 0, some 0, some 0] ∧ (polling 63 []).busy = true ∧
    Event.endPoll ∉ (ready []).tr := by decide

/-- The requests and the quiet cycle, each where it goes on or is refused. -/
theorem test_witness_PortInputsDriveTheOperations :
    State.reset.refused = false ∧ State.reset.cfg = false ∧ (ready []).cfg = true ∧ (ready []).busy = false ∧
    (polling 61 []).busy = true ∧
    exec (.configure padMap) (State.reset.withDataIn [.low]) =
      .next (((State.reset.withDataIn [.low]).configureLines padMap).emit .cfg) ∧
    step ((polling 61 []).withDataIn [.low]) = .next (((polling 61 []).withDataIn [.low]).afterWt 6) :=
  ⟨rfl, rfl, rfl, rfl, rfl, rfl, rfl⟩

/-- A cycle in which nothing is asked for, with a time-unit and without. -/
def quietCycle (tick : Bool) : PortInputs := ⟨[.high, .high, .high], false, false, tick⟩

/-- Two ticks of three have come; and the third comes. -/
theorem test_witness_WaitConsumesItsUnitTicks :
    (∀ i ∈ [quietCycle true, quietCycle false, quietCycle true], i.quiet = true) ∧
    [quietCycle true, quietCycle false, quietCycle true].countP (·.unitTick) < 3 ∧
    (quietCycle true).unitTick = true ∧
    [quietCycle true, quietCycle false, quietCycle true].countP (·.unitTick) + 1 = 3 := by decide

/-- The invariant holds in a state with a call to come, and the step goes on. -/
theorem test_witness_EveryStepKeepsTheInvariant :
    Inv { ready [] with calls := [.setclk .direct .high] } ∧
    step { ready [] with calls := [.setclk .direct .high] } = .next (((ready []).driveClock .high).emit (.clk .high)) :=
  ⟨{ test_ready_inv [] with lines := fun _ => ⟨rfl, rfl, rfl, rfl, rfl, rfl⟩ }, rfl⟩

end Sys2Proof.Tests
end

section
/-! SUPPORT. The configuration and the constants beside it, which CONFIGURE alone writes (10_state.md R24 to R26). -/

namespace Sys2Proof.Machine

/-- The mapping, directions, pull-ups and `cfg`, and beside them the microprogram and the mark. -/
def State.configuration (s : State) :
    PinMap × Direction × Direction × List Direction × List PullUp × Bool × Vector Byte 64 × Bool :=
  (s.pinmap, s.dirClock, s.dirLatch, s.dirData, s.pullupData, s.cfg, s.rom, s.refused)

theorem State.configuration_eq_iff {s t : State} :
    t.configuration = s.configuration ↔
      t.pinmap = s.pinmap ∧ t.dirClock = s.dirClock ∧ t.dirLatch = s.dirLatch ∧ t.dirData = s.dirData ∧
      t.pullupData = s.pullupData ∧ t.cfg = s.cfg ∧ t.rom = s.rom ∧ t.refused = s.refused := by
  simp [State.configuration]

@[simp] theorem State.configuration_stepIndex (s : State) (c : Setting) :
    (s.stepIndex c).configuration = s.configuration := by cases c <;> rfl

@[simp] theorem State.configuration_afterSample (s : State) (p : Fin 12) :
    (s.afterSample p).configuration = s.configuration := by rw [State.afterSample_eq]; rfl

@[simp] theorem State.configuration_serialized (s : State) : s.serialized.configuration = s.configuration := by
  rw [State.serialized_eq]; rfl

@[simp] theorem State.configuration_afterEnd (s : State) : s.afterEnd.configuration = s.configuration := by
  rw [State.afterEnd_eq]; rfl

/-- Every instruction but CONFIGURE leaves the configuration alone, if the poll it may run does. -/
theorem Answers.configuration {s t : State} {i : Instr} (h : Answers s i t) (hi : ∀ m, i ≠ .configure m)
    (hpoll : ∀ u, runPoll s = .next u → i.isMicroOp = false → u.configuration = s.configuration) :
    t.configuration = s.configuration := by
  cases i with
  | endPoll => obtain rfl := h; exact s.configuration_afterEnd
  | serialize => obtain rfl := h; exact s.configuration_serialized
  | rstrep | build | onHostReport | lifecycle => obtain rfl := h; rfl
  | setclk | setlat | wait => obtain ⟨-, rfl⟩ := h; exact State.configuration_stepIndex _ _
  | sample0 | sample1 | sample2 | sample3 | sample4 | sample5 | sample6 | sample7 | sample8 | sample9 | sample10
  | sample11 => obtain ⟨-, rfl⟩ := h; exact State.configuration_afterSample _ _
  | configure m => exact absurd rfl (hi m)
  | readdata => obtain ⟨-, rfl⟩ := h; rfl
  | toggle => obtain ⟨-, h⟩ := h; rw [h]; rfl
  | poll => obtain ⟨u, hu, rfl⟩ := h; exact hpoll u hu rfl
  | onCreateReport => obtain ⟨u, _, _, _, _, hu, -, rfl⟩ := h; exact hpoll u hu rfl

/-- No micro-operation is CONFIGURE, and none runs a poll. -/
theorem exec_microOp_configuration {s t : State} {i : Instr} (hi : i.isMicroOp = true) (h : exec i s = .next t) :
    t.configuration = s.configuration :=
  (exec_answers h).configuration (by rintro m rfl; cases hi) fun _ _ hn => by simp [hi] at hn

theorem runPoll_configuration {s u : State} (h : runPoll s = .next u) : u.configuration = s.configuration :=
  runPoll_keeps (P := fun t => t.configuration = s.configuration) rfl id
    (fun _ _ _ hi hab ha => (exec_microOp_configuration hi hab).trans ha) h

theorem exec_configuration {s t : State} {i : Instr} (h : exec i s = .next t) (hi : ∀ m, i ≠ .configure m) :
    t.configuration = s.configuration :=
  (exec_answers h).configuration hi fun _ hu _ => runPoll_configuration hu

theorem exec_configure_of_not_cfg {s : State} (m : PinMap) (h : s.cfg = false) :
    exec (.configure m) s = .next ((s.configureLines m).emit .cfg) := by
  simp [exec, execConfigure, h]

theorem exec_configure_of_cfg {s : State} (m : PinMap) (h : s.cfg = true) :
    exec (.configure m) s = .refused .reconfigure := by
  simp [exec, execConfigure, h]

/-- Settles O40: CONFIGURE is refused from a configured state, and no other instruction writes the configuration. -/
theorem configurationIsWrittenOnce : Obligations.ConfigurationIsWrittenOnce := by
  unfold Obligations.ConfigurationIsWrittenOnce
  refine ⟨fun m s hc => ⟨_, exec_configure_of_not_cfg m hc, rfl, rfl, rfl, fun k hk => ?_⟩, fun i s t hc h => ?_⟩
  · simp [hk]
  · have hi : ∀ m, i ≠ .configure m := by
      rintro m rfl
      rw [exec_configure_of_cfg m hc] at h
      cases h
    simpa only [hc] using State.configuration_eq_iff.1 (exec_configuration h hi)

end Sys2Proof.Machine
end

section
/-! SUPPORT. A whole poll and its report, as functions of its twelve samples (41_shift_register_poller.md R126,
42_report_builder.md R166). -/

namespace Sys2Proof.Machine

/-! ### The registers are BUILD of the samples -/

/-- The report of the first `k` positions' samples: the effects of those positions, in order. -/
def reportUpTo (sv : SampleVector) (k : Nat) : Report :=
  ((List.finRange 12).take k).foldl (fun r p => Report.afterEffect r p sv[p]) neutralReport

theorem reportUpTo_succ (sv : SampleVector) {k : Nat} (h : k < 12) :
    reportUpTo sv (k + 1) = Report.afterEffect (reportUpTo sv k) ⟨k, h⟩ sv[k] := by
  have hk : k < (List.finRange 12).length := by simpa using h
  simp [reportUpTo, List.take_succ_eq_append_getElem hk]

/-- BUILD's twelve tests are the effects of the twelve positions, in order (42_report_builder.md R163, R166). -/
theorem reportUpTo_all (sv : SampleVector) : reportUpTo sv 12 = buildReport sv := rfl

theorem State.reportRegs_sampledTo (s : State) (hs : s.reportRegs = neutralReport) {k : Nat} (h : k ≤ 12) :
    (s.sampledTo k).reportRegs = reportUpTo s.pollSamples k := by
  induction k with
  | zero => rw [State.sampledTo_zero, hs]; rfl
  | succ k ih =>
    rw [s.reportRegs_sampledTo_succ h, ih (by omega), reportUpTo_succ _ h]
    simp [State.pollSamples]

/-! ### The whole poll -/

/-- The twelve samples that the poll that begins here reads. -/
def State.frameSamples (s : State) : SampleVector := s.beginPoll.afterHeader.pollSamples

theorem State.beginPoll_afterHeader_sv (s : State) : s.beginPoll.afterHeader.sv = Vector.replicate 12 false := by
  rw [State.beginPoll_afterHeader_eq]

theorem State.beginPoll_afterHeader_reportRegs (s : State) : s.beginPoll.afterHeader.reportRegs = neutralReport := by
  rw [State.beginPoll_afterHeader_eq]; rfl

theorem State.beginPoll_afterHeader_tr (s : State) :
    s.beginPoll.afterHeader.tr = s.tr ++ [.clk .high, .lat .high, .rst, .lat .low] := by
  rw [State.beginPoll_afterHeader_eq]

/-- Everything the words after the last sample do: three padding pulses, the settle wait, CLOCK High, END. -/
theorem State.afterPadding_afterTail_eq (s : State) :
    s.afterPulse.afterPulse.afterPulse.afterTail =
      { s with
        clock := .high, busy := false, t := s.t + 9, upc := s.upc + 11
        mem := s.serialized.mem
        tr := s.tr ++
          ((List.replicate Config.nPad pulseEvents).flatten ++ [.wt Config.tSettle, .clk .high, .endPoll]) } := by
  simp only [State.afterTail, State.afterEnd_eq, State.afterPulse_eq, State.afterClk, State.afterWt, State.driveClock,
    State.emit, State.advance, State.addTime, State.mk.injEq, true_and, and_true, and_self, List.append_assoc]
  exact ⟨by bv_omega, rfl, rfl, rfl⟩

section
variable (s : State)

theorem State.afterHeader_sampledTo_sv : (s.beginPoll.afterHeader.sampledTo 12).sv = s.frameSamples := by
  ext p hp
  rw [State.sampledTo_sv _ s.beginPoll_afterHeader_sv le_rfl p hp, if_pos hp]
  rfl

theorem State.afterHeader_sampledTo_reportRegs :
    (s.beginPoll.afterHeader.sampledTo 12).reportRegs = buildReport s.frameSamples :=
  (State.reportRegs_sampledTo _ s.beginPoll_afterHeader_reportRegs le_rfl).trans (reportUpTo_all _)

theorem State.afterHeader_sampledTo_tr :
    (s.beginPoll.afterHeader.sampledTo 12).tr = s.tr ++ ([.clk .high, .lat .high, .rst, .lat .low] ++
      s.frameSamples.toList.flatMap fun v => pulseEvents ++ [Event.rd v]) := by
  rw [State.sampledTo_tr _ le_rfl, ← State.pollSamples_toList, ← State.frameSamples, ← List.append_assoc,
    State.beginPoll_afterHeader_tr]

/-- Everything a poll does, under every environment (41_shift_register_poller.md section 2). -/
theorem State.afterPoll_eq :
    s.afterPoll =
      { s with
        clock := .high, latch := .low, busy := false, upc := 63, sv := s.frameSamples
        x := (buildReport s.frameSamples).x
        y := (buildReport s.frameSamples).y
        btn := (buildReport s.frameSamples).btn
        mem := s.afterPoll.mem, t := s.t + 21, tr := s.tr ++ frameEvents s.frameSamples
        data := s.afterPoll.data, env := s.env.drop 12, draws := s.afterPoll.draws } := by
  have hpoll : s.afterPoll = _ := s.beginPoll.afterHeader.afterPositions.afterPadding_afterTail_eq
  rw [hpoll, State.afterPositions_eq]
  simp only [State.mk.injEq, s.afterHeader_sampledTo_sv, s.afterHeader_sampledTo_tr,
    ← s.afterHeader_sampledTo_reportRegs, State.reportRegs, State.sampledTo_t _ (le_refl 12),
    State.sampledTo_upc _ (le_refl 12), State.sampledTo_env _ (le_refl 12)]
  simp [State.beginPoll_afterHeader_eq, frameEvents]

theorem State.afterPoll_sv : s.afterPoll.sv = s.frameSamples := by rw [State.afterPoll_eq]

theorem State.afterPoll_tr : s.afterPoll.tr = s.tr ++ frameEvents s.frameSamples := by rw [State.afterPoll_eq]

theorem State.reportRegs_afterPoll : s.afterPoll.reportRegs = buildReport s.frameSamples := by
  rw [State.afterPoll_eq]
  generalize buildReport s.frameSamples = r
  rfl

theorem State.reportRegs_afterEnd : s.afterEnd.reportRegs = s.reportRegs := by
  rw [State.afterEnd_eq]; rfl

/-- The buffer after a poll is the report of its samples, whatever it held before (42_report_builder.md R167). -/
theorem State.reportBytes_afterPoll : s.afterPoll.reportBytes = (wireFormat (buildReport s.frameSamples)).map some := by
  rw [← State.reportRegs_afterPoll, State.afterPoll, State.afterTail, State.reportBytes_afterEnd,
    State.reportRegs_afterEnd]

end

/-! ### What the host is given -/

/-- What ONCREATEREPORT returns of a report (43_hid_transport_boundary.md R180, R181). -/
def reportResult (r : Report) : Result :=
  .bytes r.x r.y (r.btn.extractLsb' 0 8) (r.btn.extractLsb' 8 8) forceSend

theorem returnReport_of_reportBytes {s : State} {r : Report} (h : s.reportBytes = (wireFormat r).map some) :
    returnReport s = .next (s.giveResult (reportResult r)) := by
  simp only [State.reportBytes, wireFormat, List.map_cons, List.map_nil, List.cons.injEq, and_true] at h
  obtain ⟨h0, h1, h2, h3⟩ := h
  simp only [returnReport, h0, h1, h2, h3, reportResult]

theorem exec_onCreateReport_eq {s : State} (hc : s.cfg = true) (hb : s.busy = false) (hr : s.rom = microprogram) :
    exec .onCreateReport s = .next (s.afterPoll.giveResult (reportResult (buildReport s.frameSamples))) := by
  rw [exec, execOnCreateReport, runPoll_eq hc hb hr, andThen_next, returnReport_of_reportBytes s.reportBytes_afterPoll]

/-! ### The frame's samples -/

theorem samplesRead_flatMap_pulse (bs : List Bool) :
    samplesRead (bs.flatMap fun v => pulseEvents ++ [Event.rd v]) = bs := by
  induction bs with
  | nil => rfl
  | cons b bs ih => rw [List.flatMap_cons, samplesRead_append, ih]; rfl

theorem samplesRead_frameEvents (b : SampleVector) : samplesRead (frameEvents b) = b.toList := by
  rw [frameEvents, samplesRead_append, samplesRead_append, samplesRead_append, samplesRead_flatMap_pulse]
  simp [samplesRead, Config.nPad, pulseEvents]

/-- Settles O37: a poll's SV, report, buffer and result are functions of the samples in its frame. -/
theorem reportDependsOnThisPollsSamplesAlone : Obligations.ReportDependsOnThisPollsSamplesAlone := by
  unfold Obligations.ReportDependsOnThisPollsSamplesAlone
  intro s1 s2 hc1 hb1 hr1 hc2 hb2 hr2
  refine ⟨_, _, _, _, exec_onCreateReport_eq hc1 hb1 hr1, exec_onCreateReport_eq hc2 hb2 hr2, s1.afterPoll_tr,
    s2.afterPoll_tr, ⟨_, rfl⟩, fun h => ?_⟩
  rw [samplesRead_frameEvents, samplesRead_frameEvents, Vector.toList_inj] at h
  simp [State.afterPoll_sv, State.reportRegs_afterPoll, State.reportBytes_afterPoll, h]

end Sys2Proof.Machine
end

section
/-! SUPPORT. The two lines the block drives: who writes them, and what a write does at once (20_memory.md R52). -/

namespace Sys2Proof.Machine

/-- Of the instructions that are neither CONFIGURE nor a poll, SETCLK and TOGGLE alone write CLOCK, and SETLAT alone
writes LATCH. -/
theorem Answers.lines {s t : State} {i : Instr} (h : Answers s i t) (hconf : ∀ m, i ≠ .configure m)
    (hpoll : i ≠ .poll) (hreport : i ≠ .onCreateReport) :
    ((∀ c v, i ≠ .setclk c v) → (∀ c, i ≠ .toggle c) → t.clock = s.clock) ∧
    ((∀ c v, i ≠ .setlat c v) → t.latch = s.latch) := by
  cases i with
  | endPoll => obtain rfl := h; rw [State.afterEnd_eq]; exact ⟨fun _ _ => rfl, fun _ => rfl⟩
  | rstrep | build | serialize | onHostReport | lifecycle =>
    obtain rfl := h; exact ⟨fun _ _ => rfl, fun _ => rfl⟩
  | setclk c v => obtain ⟨-, rfl⟩ := h; exact ⟨fun hclk _ => absurd rfl (hclk c v), fun _ => by simp⟩
  | setlat c v => obtain ⟨-, rfl⟩ := h; exact ⟨fun _ _ => by simp, fun hlat => absurd rfl (hlat c v)⟩
  | wait => obtain ⟨-, rfl⟩ := h; exact ⟨fun _ _ => by simp, fun _ => by simp⟩
  | sample0 | sample1 | sample2 | sample3 | sample4 | sample5 | sample6 | sample7 | sample8 | sample9 | sample10
  | sample11 => obtain ⟨-, rfl⟩ := h; rw [State.afterSample_eq]; exact ⟨fun _ _ => rfl, fun _ => rfl⟩
  | readdata => obtain ⟨-, rfl⟩ := h; exact ⟨fun _ _ => rfl, fun _ => rfl⟩
  | toggle c => obtain ⟨-, h⟩ := h; rw [h]; exact ⟨fun _ htog => absurd rfl (htog c), fun _ => rfl⟩
  | configure m => exact absurd rfl (hconf m)
  | poll => exact absurd rfl hpoll
  | onCreateReport => exact absurd rfl hreport

/-- A line write in the setting the block is in, micro while busy and direct while idle, is not refused as busy. -/
theorem settingBusyTest_of_setting {s : State} {c : Setting} (h : s.busy = decide (c = .micro)) :
    settingBusyTest c s = none := by
  cases c with
  | micro => rfl
  | direct => exact busyTest_of_idle h

section
variable {s : State} (c : Setting) (v : Level)

theorem exec_setclk_of_cfg (hc : s.cfg = true) (hb : s.busy = decide (c = .micro)) :
    exec (.setclk c v) s = .next (((s.driveClock v).emit (.clk v)).stepIndex c) := by
  simp [exec, execSetclk, cfgTest_of_cfg hc, settingBusyTest_of_setting hb]

theorem exec_setlat_of_cfg (hc : s.cfg = true) (hb : s.busy = decide (c = .micro)) :
    exec (.setlat c v) s = .next (((s.driveLatch v).emit (.lat v)).stepIndex c) := by
  simp [exec, execSetlat, cfgTest_of_cfg hc, settingBusyTest_of_setting hb]

theorem exec_setclk_of_not_cfg (hc : s.cfg = false) : exec (.setclk c v) s = .refused .notConfigured := by
  simp [exec, execSetclk, cfgTest_of_not_cfg hc]

theorem exec_setlat_of_not_cfg (hc : s.cfg = false) : exec (.setlat c v) s = .refused .notConfigured := by
  simp [exec, execSetlat, cfgTest_of_not_cfg hc]

end

/-- Settles O41: by the writers of each line, and the answer of each write in a configured and an unconfigured state. -/
theorem lineHoldsItsLevelUntilTheNextWrite : Obligations.LineHoldsItsLevelUntilTheNextWrite := by
  unfold Obligations.LineHoldsItsLevelUntilTheNextWrite
  refine ⟨fun i s t h hclk htog hconf hpoll hreport => ?_, fun i s t h hlat hconf hpoll hreport => ?_,
    fun s c v hc hb => ⟨?_, ?_⟩, fun s c v hc => ⟨exec_setclk_of_not_cfg c v hc, exec_setlat_of_not_cfg c v hc⟩⟩
  · exact ((exec_answers h).lines hconf hpoll hreport).1 hclk htog
  · exact ((exec_answers h).lines hconf hpoll hreport).2 hlat
  · exact ⟨_, exec_setclk_of_cfg c v hc hb, by simp, by simp⟩
  · exact ⟨_, exec_setlat_of_cfg c v hc hb, by simp, by simp⟩

end Sys2Proof.Machine
end

section
/-! SUPPORT. The line driver's operations (40_gpio_line_driver.md section 1): what SETCLK, SETLAT and READDATA answer,
and what a read finds on the read line. -/

namespace Sys2Proof.Machine

section
variable {s : State}

/-! ### The two tests in their order -/

theorem guarded_cfg_busy_of_admitted {c : Setting} (o : Out) (hc : s.cfg = true) (hb : settingBusyTest c s = none) :
    guarded (cfgTest s) (guarded (settingBusyTest c s) o) = o := by
  rw [cfgTest_of_cfg hc, guarded_none, hb, guarded_none]

theorem guarded_cfg_busy_of_busy (o : Out) (hc : s.cfg = true) (hb : s.busy = true) :
    guarded (cfgTest s) (guarded (busyTest s) o) = .refused .busy := by
  rw [cfgTest_of_cfg hc, guarded_none, busyTest_of_busy hb, guarded_some]

/-! ### SETCLK and SETLAT -/

/-- A fetched SETCLK tests `cfg` alone: whether a poll is in progress does not matter to it. -/
theorem exec_setclk_micro_of_cfg (v : Level) (hc : s.cfg = true) :
    exec (.setclk .micro v) s = .next ((s.driveClock v).emit (.clk v)).advance :=
  guarded_cfg_busy_of_admitted (c := .micro) _ hc rfl

/-- A fetched SETLAT tests `cfg` alone: whether a poll is in progress does not matter to it. -/
theorem exec_setlat_micro_of_cfg (v : Level) (hc : s.cfg = true) :
    exec (.setlat .micro v) s = .next ((s.driveLatch v).emit (.lat v)).advance :=
  guarded_cfg_busy_of_admitted (c := .micro) _ hc rfl

theorem exec_setclk_direct_of_busy (v : Level) (hc : s.cfg = true) (hb : s.busy = true) :
    exec (.setclk .direct v) s = .refused .busy :=
  guarded_cfg_busy_of_busy _ hc hb

theorem exec_setlat_direct_of_busy (v : Level) (hc : s.cfg = true) (hb : s.busy = true) :
    exec (.setlat .direct v) s = .refused .busy :=
  guarded_cfg_busy_of_busy _ hc hb

theorem encode_setclk_micro (v : Level) :
    encode (.setclk .micro v) = some (0x10#8 ||| BitVec.ofNat 8 (bitOfLevel v).toNat) := by
  cases v <;> rfl

theorem encode_setlat_micro (v : Level) :
    encode (.setlat .micro v) = some (0x20#8 ||| BitVec.ofNat 8 (bitOfLevel v).toNat) := by
  cases v <;> rfl

/-! ### READDATA -/

theorem exec_readdata_of_idle (hc : s.cfg = true) (hb : s.busy = false) :
    exec .readdata s = .next (s.afterRead.giveResult (.sample s.nextSample)) :=
  guarded_cfg_busy_of_admitted (c := .direct) _ hc (busyTest_of_idle hb)

theorem exec_readdata_of_not_cfg (hc : s.cfg = false) : exec .readdata s = .refused .notConfigured := by
  simp [exec, execReaddata, cfgTest_of_not_cfg hc]

theorem exec_readdata_of_busy (hc : s.cfg = true) (hb : s.busy = true) : exec .readdata s = .refused .busy :=
  guarded_cfg_busy_of_busy _ hc hb

/-! ### What a read finds -/

theorem dataRead_lt_nData_iff {m : PinMap} : m.dataRead < m.nData ↔ m.wf = true := decide_eq_true_iff.symm

/-- The data lines a read leaves behind show the levels the read found (20_memory.md R56). -/
theorem State.afterRead_data_getElem? {k : Nat} (h : k < s.pinmap.nData) :
    s.afterRead.data[k]? = some (s.comingLevel k) := by
  simp [h]

/-- The sample is true exactly when the environment's next move leaves the read line Low (00_scope.md R18). -/
theorem State.nextSample_eq_true_iff (hwf : s.pinmap.wf = true) :
    s.nextSample = true ↔ s.comingLevel s.pinmap.dataRead = .low := by
  rw [s.nextSample_eq (dataRead_lt_nData_iff.2 hwf), decide_eq_true_iff]

/-- The sample is true exactly when the read line stands Low after the read. -/
theorem State.nextSample_eq_true_iff_data (hwf : s.pinmap.wf = true) :
    s.nextSample = true ↔ s.afterRead.data[s.pinmap.dataRead]? = some .low := by
  rw [s.nextSample_eq_true_iff hwf, State.afterRead_data_getElem? (dataRead_lt_nData_iff.2 hwf), Option.some_inj]

/-- A move that decides the read line decides the sample, whatever it does to the other lines. -/
theorem State.nextSample_eq_true_iff_answer {ds : List Drive} {v : Level} (hwf : s.pinmap.wf = true)
    (he : s.moveAt 0 = some ds) (ha : s.answerUnder ds = some v) : s.nextSample = true ↔ v = .low := by
  rw [s.nextSample_eq_true_iff hwf, State.comingLevel_of_answer he ha]

end

/-! ### The statements -/

/-- Settles O10: SETCLK's answer in each setting, configured and not, and its word. -/
theorem setclkDrivesClockAndNothingElse : Obligations.SetclkDrivesClockAndNothingElse := by
  unfold Obligations.SetclkDrivesClockAndNothingElse
  intro s v
  exact ⟨fun hc _ => exec_setclk_micro_of_cfg v hc, fun hc hb => exec_setclk_of_cfg .direct v hc hb,
    fun hc c => exec_setclk_of_not_cfg c v hc, exec_setclk_direct_of_busy v, encode_setclk_micro v⟩

/-- Settles O11: SETLAT's answer in each setting, configured and not, and its word. -/
theorem setlatDrivesLatchAndNothingElse : Obligations.SetlatDrivesLatchAndNothingElse := by
  unfold Obligations.SetlatDrivesLatchAndNothingElse
  intro s v
  exact ⟨fun hc _ => exec_setlat_micro_of_cfg v hc, fun hc hb => exec_setlat_of_cfg .direct v hc hb,
    fun hc c => exec_setlat_of_not_cfg c v hc, exec_setlat_direct_of_busy v, encode_setlat_micro v⟩

/-- Settles O13: the boolean is the sample of the environment's next move, which the read leaves on the lines. -/
theorem readdataSamplesTheReadLine : Obligations.ReaddataSamplesTheReadLine := by
  unfold Obligations.ReaddataSamplesTheReadLine
  intro s
  refine ⟨fun hc hb => ⟨_, s.nextSample, exec_readdata_of_idle hc hb, ?frame, ?line, ?answer⟩,
    exec_readdata_of_not_cfg, exec_readdata_of_busy⟩
  case frame => rfl
  case line => exact State.nextSample_eq_true_iff_data
  case answer => exact fun hwf ds v => State.nextSample_eq_true_iff_answer hwf

end Sys2Proof.Machine
end

section
/-! SUPPORT. POLL's answer, and what the events of its frame say: the waits, and the events after the last sample
(41_shift_register_poller.md R126, R128, R133). -/

namespace Sys2Proof.Machine

/-- POLL answers the state after the whole poll, with the frame's samples handed to the caller. -/
theorem exec_poll_eq {s : State} (hc : s.cfg = true) (hb : s.busy = false) (hr : s.rom = microprogram) :
    exec .poll s = .next (s.afterPoll.giveResult (.samples s.frameSamples)) := by
  rw [exec, execPoll, runPoll_eq hc hb hr, andThen_next, State.afterPoll_sv]

/-! ### The waits of a frame -/

theorem waited_flatMap_pulse (bs : List Bool) :
    waited (bs.flatMap fun v => pulseEvents ++ [Event.rd v]) = bs.length * Config.tPulse := by
  induction bs with
  | nil => simp [waited]
  | cons b bs ih =>
    rw [List.flatMap_cons, waited_append, ih, List.length_cons, Nat.succ_mul, Nat.add_comm]
    rfl

/-- One wait in each of the twelve positions, one in each padding pulse, and the settle wait (R128). -/
theorem waited_frameEvents (b : SampleVector) : waited (frameEvents b) = 21 := by
  rw [frameEvents, waited_append, waited_append, waited_append, waited_flatMap_pulse, Vector.length_toList]
  rfl

/-- Settles O19: the waits of POLL's one frame, summed part by part. -/
theorem pollWaitsTwentyOneUnits : Obligations.PollWaitsTwentyOneUnits := by
  unfold Obligations.PollWaitsTwentyOneUnits
  refine ⟨rfl, fun s hc hb hr => ⟨_, frameEvents s.frameSamples, exec_poll_eq hc hb hr, s.afterPoll_tr, ?time,
    waited_frameEvents _, fun tUnit => ?real⟩⟩
  case time => rw [State.giveResult_t, State.afterPoll_eq]
  case real => rw [leastRealTime, waited_frameEvents]; rfl

/-! ### The events after the last sample -/

/-- The events of a frame before its twelfth read. -/
def eventsBeforeLastRead (b : SampleVector) : List Event :=
  [.clk .high, .lat .high, .rst, .lat .low] ++ (b.pop.toList.flatMap fun v => pulseEvents ++ [.rd v]) ++ pulseEvents

/-- A frame, cut at its twelfth read: three padding pulses, the settle wait, CLOCK High and END follow (R133, R134). -/
theorem frameEvents_eq_lastRead (b : SampleVector) :
    frameEvents b = eventsBeforeLastRead b ++ [.rd b.back] ++ (List.replicate Config.nPad pulseEvents).flatten ++
      [.wt Config.tSettle, .clk .high, .endPoll] := by
  have hb : b.toList = b.pop.toList ++ [b.back] := by rw [← Vector.toList_push, Vector.push_pop_back]
  rw [frameEvents, eventsBeforeLastRead, hb]
  simp

theorem length_samplesRead_lastRead (b : SampleVector) :
    (samplesRead (eventsBeforeLastRead b ++ [.rd b.back])).length = 12 := by
  simp only [eventsBeforeLastRead, samplesRead_append, samplesRead_flatMap_pulse, List.length_append,
    Vector.length_toList]
  rfl

/-- Settles O23: POLL's frame, cut at its twelfth read. -/
theorem threePaddingPulsesFollowTheLastSample : Obligations.ThreePaddingPulsesFollowTheLastSample := by
  unfold Obligations.ThreePaddingPulsesFollowTheLastSample
  intro s hc hb hr
  refine ⟨_, eventsBeforeLastRead s.frameSamples, s.frameSamples.back, exec_poll_eq hc hb hr, ?trace,
    length_samplesRead_lastRead _⟩
  case trace =>
    rw [State.giveResult_tr, State.afterPoll_tr, frameEvents_eq_lastRead]
    simp only [List.append_assoc]
    rfl

end Sys2Proof.Machine
end

section
/-! SUPPORT. The last three words of a poll as steps, and the whole poll as 64 steps of the machine
(41_shift_register_poller.md R129, R134). -/

namespace Sys2Proof.Machine

/-- After the third padding pulse of a poll, before the settle wait. -/
def State.afterPadding (s : State) : State :=
  s.beginPoll.afterHeader.afterPositions.afterPulse.afterPulse.afterPulse

@[simp] theorem State.afterPulse_refused (s : State) : s.afterPulse.refused = s.refused := by
  rw [State.afterPulse_eq]

@[simp] theorem State.afterPadding_clock (s : State) : s.afterPadding.clock = .low := rfl

@[simp] theorem State.afterPadding_latch (s : State) : s.afterPadding.latch = .low := by
  rw [State.afterPadding, State.afterPositions_eq]
  simp [State.afterPulse_eq, State.beginPoll_afterHeader_eq]

@[simp] theorem State.afterPadding_refused (s : State) : s.afterPadding.refused = s.refused := by
  rw [State.afterPadding, State.afterPositions_eq]
  simp [State.beginPoll_afterHeader_eq]

theorem InPoll.afterPadding {s : State} (hc : s.cfg = true) (hr : s.rom = microprogram) : InPoll s.afterPadding 61 :=
  (InPoll.begin hc hr).afterHeader.afterPositions.afterPulse.afterPulse.afterPulse

section
variable {s : State}

/-! The words at 61, 62 and 63 (30_encoding.md R85). -/

theorem InPoll.settleStep (h : InPoll s 61) (hm : s.refused = false) : step s = .next (s.afterWt Config.tSettle) :=
  (step_of_busy hm h.busy).trans (sequencerStep_wait ((h.fetch (by omega)).trans rfl))

theorem InPoll.clockHighStep (h : InPoll s 62) (hm : s.refused = false) : step s = .next (s.afterClk .high) :=
  (step_of_busy hm h.busy).trans (sequencerStep_setclk h.cfg ((h.fetch (by omega)).trans rfl))

theorem InPoll.endStep (h : InPoll s 63) (hm : s.refused = false) : step s = .next s.afterEnd :=
  (step_of_busy hm h.busy).trans (sequencerStep_endPoll ((h.fetch (by omega)).trans rfl))

/-- The settle wait, CLOCK High and END are the last three steps of a poll. -/
theorem InPoll.runTail (h : InPoll s 61) (hm : s.refused = false) :
    Host.Core.run Sys2Proof.core 3 s = .next s.afterTail := by
  have h62 := h.afterWt Config.tSettle
  have h63 := h62.afterClk .high
  have hs : Sys2Proof.core.step = step := rfl
  simp only [Host.Core.run, hs, h.settleStep hm, h62.clockHighStep hm, h63.endStep hm]
  rfl

/-- The header, the twelve positions and the three padding pulses are 61 steps. -/
theorem run_afterPadding (hc : s.cfg = true) (hr : s.rom = microprogram) (hm : s.refused = false) :
    Host.Core.run Sys2Proof.core 61 s.beginPoll = .next s.afterPadding := by
  have h0 := InPoll.begin hc hr
  have h4 := h0.afterHeader
  have h52 := h4.afterPositions
  have h55 := h52.afterPulse
  have h58 := h55.afterPulse
  have hm52 : s.beginPoll.afterHeader.afterPositions.refused = false := by
    rw [State.afterPositions_eq, State.sampledTo_refused]; exact hm
  have hm55 := (State.afterPulse_refused _).trans hm52
  have hm58 := (State.afterPulse_refused _).trans hm55
  have hpositions := h4.runPositions hm (le_refl 12)
  rw [← State.afterPositions_eq] at hpositions
  exact run_trans (run_trans (run_trans (run_trans (h0.runHeader hm) hpositions)
    (h52.runPulse hm52 (by omega) rfl rfl rfl))
    (h55.runPulse hm55 (by omega) rfl rfl rfl))
    (h58.runPulse hm58 (by omega) rfl rfl rfl)

/-- A whole poll is 64 steps. -/
theorem run_afterPoll (hc : s.cfg = true) (hr : s.rom = microprogram) (hm : s.refused = false) :
    Host.Core.run Sys2Proof.core 64 s.beginPoll = .next s.afterPoll :=
  run_trans (run_afterPadding hc hr hm) ((InPoll.afterPadding hc hr).runTail (s.afterPadding_refused.trans hm))

/-- Before END a poll is in progress, at the index of the steps it has made. -/
theorem run_beginPoll_upc (hc : s.cfg = true) (hr : s.rom = microprogram) (hm : s.refused = false) {k : Nat}
    (hk : k < 64) :
    ∃ u, Host.Core.run Sys2Proof.core k s.beginPoll = .next u ∧ u.busy = true ∧ u.upc.toNat = k := by
  obtain ⟨u, hu, h, -⟩ := (InPoll.begin hc hr).run k hm (by omega)
  refine ⟨u, hu, h.busy, ?_⟩
  rw [h.upc, BitVec.toNat_ofNat]
  omega

end

theorem State.afterPoll_results (s : State) : s.afterPoll.results = s.results := by rw [State.afterPoll_eq]

theorem State.afterPoll_refused (s : State) : s.afterPoll.refused = s.refused := by rw [State.afterPoll_eq]

/-- Settles O20: the index counts the steps up to END, and the 64 steps leave the state POLL's loop leaves. -/
theorem pollCompletesInExactlySixtyFourSteps : Obligations.PollCompletesInExactlySixtyFourSteps := by
  unfold Obligations.PollCompletesInExactlySixtyFourSteps
  intro s hc hb hr hm
  refine ⟨fun k hk => run_beginPoll_upc hc hr hm hk, _, _, exec_poll_eq hc hb hr, run_afterPoll hc hr hm, ?idle,
    ?same, ?unmarked⟩
  case idle => rw [State.afterPoll_eq]
  case same => rw [← s.afterPoll_results]; generalize s.afterPoll = u; rfl
  case unmarked => rw [State.giveResult_refused, State.afterPoll_refused, hm]

/-- Settles O24: the state after the padding pulses, and the last three steps from it. -/
theorem pollSettlesAndRestsClockHigh : Obligations.PollSettlesAndRestsClockHigh := by
  unfold Obligations.PollSettlesAndRestsClockHigh
  intro s hc _ hr hm
  have hrun := run_afterPadding hc hr hm
  have h61 := InPoll.afterPadding hc hr
  have hm61 := s.afterPadding_refused.trans hm
  have hclock := s.afterPadding_clock
  have hlatch := s.afterPadding_latch
  generalize s.afterPadding = u at hrun h61 hm61 hclock hlatch
  have h62 := h61.afterWt Config.tSettle
  have h63 := h62.afterClk .high
  exact ⟨u, _, _, _, hrun, hclock, hlatch,
    h61.settleStep hm61, rfl, hclock, hlatch, rfl,
    h62.clockHighStep hm61, rfl, hlatch, rfl,
    h63.endStep hm61, rfl, rfl, hlatch, rfl⟩

end Sys2Proof.Machine
end

section
/-! SUPPORT. The samples of a poll under the named environments: each is the environment's answer to one read
(20_memory.md R56 to R58, 41_shift_register_poller.md R130). -/

namespace Sys2Proof.Machine

/-- The state in which the poll that begins here reads position `p`. -/
def State.atRead (s : State) (p : Fin 12) : State := (s.beginPoll.afterHeader.sampledTo p.val).afterPulse

theorem State.frameSamples_getElem (s : State) (p : Fin 12) : s.frameSamples[p] = (s.atRead p).nextSample := by
  simp [State.frameSamples, State.pollSamples, State.pulsedSample, State.atRead]

section
variable (s : State) (p : Fin 12)

@[simp] theorem State.atRead_pinmap : (s.atRead p).pinmap = s.pinmap := by
  simp [State.atRead, State.afterPulse_eq, State.beginPoll_afterHeader_eq]
@[simp] theorem State.atRead_pullupData : (s.atRead p).pullupData = s.pullupData := by
  simp [State.atRead, State.afterPulse_eq, State.beginPoll_afterHeader_eq]
@[simp] theorem State.atRead_envRest : (s.atRead p).envRest = s.envRest := by
  simp [State.atRead, State.afterPulse_eq, State.beginPoll_afterHeader_eq]
@[simp] theorem State.atRead_env : (s.atRead p).env = s.env.drop p.val := by
  simp [State.atRead, State.afterPulse_eq, State.sampledTo_env _ p.isLt.le, State.beginPoll_afterHeader_eq]

/-- The level found at position `p` is the environment's answer to the `p`-th coming read. -/
theorem State.atRead_comingLevel :
    (s.atRead p).comingLevel (s.atRead p).pinmap.dataRead = s.answerAt p.val (s.atRead p).tr (s.atRead p).draws :=
  s.comingLevel_eq_answerAt p.val (s.atRead_env p) (s.atRead_envRest p) (s.atRead_pinmap p) (s.atRead_pullupData p)

end

/-- The sample of position `p` is true exactly when the environment answers the read of position `p` Low. -/
theorem State.frameSamples_eq_answer {s : State} (hwf : s.pinmap.wf = true) (p : Fin 12) :
    s.frameSamples[p] = decide (s.answerAt p.val (s.atRead p).tr (s.atRead p).draws = .low) := by
  have hread : (s.atRead p).pinmap.dataRead < (s.atRead p).pinmap.nData := by
    rw [s.atRead_pinmap]; exact dataRead_lt_nData_iff.2 hwf
  rw [s.frameSamples_getElem, State.nextSample_eq _ hread, s.atRead_comingLevel]

theorem decide_levelOfSample_eq_low (b : Bool) : decide (levelOfSample b = .low) = b := by
  cases b <;> rfl

/-- Under `Ideal(v)` a poll's samples are `v` (20_memory.md R57). -/
theorem IdealAnswers.frameSamples_eq {s : State} {v : SampleVector} (h : IdealAnswers s v)
    (hwf : s.pinmap.wf = true) : s.frameSamples = v := by
  ext p hp
  have hs := State.frameSamples_eq_answer hwf ⟨p, hp⟩
  rwa [h, decide_levelOfSample_eq_low] at hs

/-- For the next poll, nothing connected is a controller with nothing pressed. -/
theorem Disconnected.idealAnswers {s : State} (h : Disconnected s) : IdealAnswers s (Vector.replicate 12 false) := by
  intro p seen draw
  rw [h, Fin.getElem_fin, Vector.getElem_replicate]
  rfl

/-- On configured lines the pull-up answers High on a read line that nothing drives (20_memory.md R58). -/
theorem Undriven.disconnected {s : State} (h : Undriven s) (hl : LinesConfigured s) : Disconnected s := by
  intro j seen draw
  obtain ⟨ds, hmove, hfloat⟩ := h j
  have hpull : s.pullupData[s.pinmap.dataRead]? = some .enabled := by
    rw [hl.pullUps, List.getElem?_replicate_of_lt (dataRead_lt_nData_iff.2 hl.mapping)]
  have hmove0 : State.moveAt { s with env := s.env.drop j, tr := seen, draws := draw } 0 = some ds := by
    simpa [State.moveAt] using hmove
  simp only [State.answerAt, State.comingLevel, hmove0, State.levelUnder, hfloat, hpull, if_true]

theorem buildReport_replicate_false : buildReport (Vector.replicate 12 false) = neutralReport := rfl

/-- Settles O21: either environment answers every read of the poll High, and BUILD of no button pressed is neutral. -/
theorem disconnectedPollIsNeutral : Obligations.DisconnectedPollIsNeutral := by
  unfold Obligations.DisconnectedPollIsNeutral
  refine ⟨fun s hc hb hr hwf henv => ?_, fun s hl hu => hu.disconnected hl⟩
  have hideal : IdealAnswers s (Vector.replicate 12 false) := henv.elim Disconnected.idealAnswers id
  have hpoll := exec_poll_eq hc hb hr
  have hsv := s.afterPoll_sv
  have htr := s.afterPoll_tr
  have hregs := s.reportRegs_afterPoll
  have hbytes := s.reportBytes_afterPoll
  rw [hideal.frameSamples_eq hwf] at hpoll hsv htr hregs hbytes
  rw [buildReport_replicate_false] at hregs hbytes
  generalize s.afterPoll = u at hpoll hsv htr hregs hbytes
  exact ⟨_, hpoll, hsv, congrArg Report.x hregs, congrArg Report.y hregs, congrArg Report.btn hregs, hbytes, htr⟩

end Sys2Proof.Machine
end

section
/-! SUPPORT. SAMPLE at the twelve positions: the word, the instruction and the registers a button's sample writes
(41_shift_register_poller.md R123, 42_report_builder.md R151 to R162). -/

namespace Sys2Proof.Machine

/-! ### The word and the instruction of a position -/

/-- SAMPLE p as an instruction (30_encoding.md R80). -/
def sampleInstr (p : Fin 12) : Instr :=
  match p with
  | 0 => .sample0
  | 1 => .sample1
  | 2 => .sample2
  | 3 => .sample3
  | 4 => .sample4
  | 5 => .sample5
  | 6 => .sample6
  | 7 => .sample7
  | 8 => .sample8
  | 9 => .sample9
  | 10 => .sample10
  | 11 => .sample11

theorem decodeWord_sample : ∀ p : Fin 12, decodeWord (0x40#8 ||| BitVec.ofNat 8 p.val) = .instr (sampleInstr p) := by
  decide

theorem exec_sampleInstr (p : Fin 12) (s : State) : exec (sampleInstr p) s = sampleAt p s := by
  fin_cases p <;> rfl

theorem exec_sampleInstr_of_cfg {s : State} (p : Fin 12) (hc : s.cfg = true) :
    exec (sampleInstr p) s = .next (s.afterSample p) :=
  (exec_sampleInstr p s).trans (sampleAt_of_cfg p hc)

/-! ### A sample of a button position -/

theorem State.afterSample_data (s : State) (p : Fin 12) : (s.afterSample p).data = s.afterRead.data := by
  simp [State.afterSample]

section
variable (s : State) {p : Fin 12} {n : Button} (hp : positionEffect p = .setsButton n)
include hp

theorem State.effectAt_x_of_setsButton (b : Bool) : (s.effectAt p b).x = s.x := by
  cases b
  · rfl
  · rw [State.effectAt_true, hp]; rfl

theorem State.effectAt_y_of_setsButton (b : Bool) : (s.effectAt p b).y = s.y := by
  cases b
  · rfl
  · rw [State.effectAt_true, hp]; rfl

theorem State.effectAt_btn_of_setsButton (b : Bool) (j : Fin 16) :
    (s.effectAt p b).btn.getLsbD j.val = (s.btn.getLsbD j.val || (b && decide (j = Config.buttonBit n))) := by
  cases b
  · simp
  · rw [State.effectAt_true, hp, State.applyEffect_setsButton, State.setBtnBit_btn, setBit_getLsbD, Bool.true_and,
      decide_eq_decide.2 eq_comm]

/-- Of the report registers, a button's sample writes BTN alone. -/
theorem State.afterSample_eq_of_setsButton :
    s.afterSample p = { s with
      sv := s.sv.set p.val s.nextSample p.isLt, btn := (s.afterSample p).btn, tr := s.tr ++ [.rd s.nextSample]
      upc := s.upc + 1, data := (s.afterSample p).data, env := s.env.tail, draws := (s.afterSample p).draws } := by
  rw [s.afterSample_eq p, s.effectAt_x_of_setsButton hp, s.effectAt_y_of_setsButton hp]

theorem State.afterSample_btn_of_setsButton (j : Fin 16) :
    (s.afterSample p).btn.getLsbD j.val =
      (s.btn.getLsbD j.val || (s.nextSample && decide (j = Config.buttonBit n))) := by
  rw [State.afterSample_eq, s.effectAt_btn_of_setsButton hp]

end

/-- Settles O15: each row names its position's instruction and button, and the sample is the read's. -/
theorem buttonSamplesSetTheirBit : Obligations.ButtonSamplesSetTheirBit := by
  unfold Obligations.ButtonSamplesSetTheirBit
  intro s hc _ row hrow
  have hinstr : row.1 = sampleInstr row.2.1 := by revert row; decide
  have hbutton : positionEffect row.2.1 = .setsButton row.2.2 := by revert row; decide
  rw [hinstr]
  refine ⟨decodeWord_sample _, s.afterSample row.2.1, s.nextSample, exec_sampleInstr_of_cfg _ hc, ?frame, ?bit, ?line,
    ?answer⟩
  case frame => exact s.afterSample_eq_of_setsButton hbutton
  case bit => exact s.afterSample_btn_of_setsButton hbutton
  case line => rw [State.afterSample_data]; exact State.nextSample_eq_true_iff_data
  case answer => exact fun hwf ds v => State.nextSample_eq_true_iff_answer hwf

end Sys2Proof.Machine
end

section
/-! SUPPORT. Which samples each field of BUILD's report depends on (42_report_builder.md R163, R165). -/

namespace Sys2Proof.Machine

theorem exists_button_iff {P : Button → Prop} :
    (∃ b, P b) ↔ P .cross ∨ P .square ∨ P .select ∨ P .start ∨ P .circle ∨ P .triangle ∨ P .l1 ∨ P .r1 := by
  constructor
  · rintro ⟨b, h⟩
    cases b <;> simp [h]
  · rintro (h | h | h | h | h | h | h | h) <;> exact ⟨_, h⟩

theorem buttonPosition_injective : Function.Injective buttonPosition := by
  intro a b; cases a <;> cases b <;> decide

/-- No button sits at a direction position (30_encoding.md R74). -/
theorem buttonPosition_ne_of_direction {p : Fin 12} (h4 : 4 ≤ p.val) (h7 : p.val ≤ 7) (b : Button) :
    (buttonPosition b).val ≠ p.val := by
  cases b <;> simp only [buttonPosition] <;> omega

/-! ### BTN -/

/-- A bit of BTN is set exactly when a pressed button owns it. -/
theorem buildReport_btn_iff (sv : SampleVector) (j : Fin 16) :
    (buildReport sv).btn.getLsbD j.val = true ↔ ∃ b, sv[buttonPosition b] = true ∧ Config.buttonBit b = j := by
  rw [exists_button_iff, buildReport, buildWith_btn]
  simp only [Bool.or_eq_true, Bool.and_eq_true, decide_eq_true_eq, or_assoc]
  rfl

/-- A button's bit of BTN is its sample: no other button owns that bit (00_scope.md R12). -/
theorem buildReport_btn_buttonBit (sv : SampleVector) (b : Button) :
    (buildReport sv).btn.getLsbD (Config.buttonBit b).val = sv[buttonPosition b] := by
  rw [Bool.eq_iff_iff, buildReport_btn_iff]
  constructor
  · rintro ⟨c, hc, hbit⟩
    rwa [← Config.buttonBit_inj.1 hbit]
  · exact fun h => ⟨b, h, rfl⟩

section
variable {sv sv' : SampleVector}

/-- A bit of BTN depends on the samples of the buttons that own it alone. -/
theorem buildReport_btn_congr {j : Fin 16}
    (h : ∀ b, Config.buttonBit b = j → sv'[buttonPosition b] = sv[buttonPosition b]) :
    (buildReport sv').btn.getLsbD j.val = (buildReport sv).btn.getLsbD j.val := by
  rw [Bool.eq_iff_iff, buildReport_btn_iff, buildReport_btn_iff]
  exact exists_congr fun b => and_congr_left fun hb => by rw [h b hb]

/-! ### The axes -/

/-- The axes depend on the samples of the direction positions alone. -/
theorem buildReport_axes_congr (h : ∀ p : Fin 12, 4 ≤ p.val → p.val ≤ 7 → sv'[p] = sv[p]) :
    (buildReport sv').x = (buildReport sv).x ∧ (buildReport sv').y = (buildReport sv).y := by
  have h4 : sv'[4] = sv[4] := h 4 (by decide) (by decide)
  have h5 : sv'[5] = sv[5] := h 5 (by decide) (by decide)
  have h6 : sv'[6] = sv[6] := h 6 (by decide) (by decide)
  have h7 : sv'[7] = sv[7] := h 7 (by decide) (by decide)
  simp only [buildReport, buildWith_x, buildWith_y, h4, h5, h6, h7, and_self]

end

/-- Settles O31: BTN depends on the button positions alone, each bit on its owner's, and the axes on the others. -/
theorem buttonBitsAreIndependent : Obligations.ButtonBitsAreIndependent := by
  unfold Obligations.ButtonBitsAreIndependent
  refine fun sv v => ⟨fun b => ?button, fun p h4 h7 => ?direction⟩
  case button =>
    obtain ⟨hx, hy⟩ := buildReport_axes_congr (sv := sv) (sv' := sv.set _ v (buttonPosition b).isLt)
      fun p h4 h7 => Vector.getElem_set_ne _ _ (buttonPosition_ne_of_direction h4 h7 b)
    refine ⟨hx, hy, ?own, fun j hj => buildReport_btn_congr fun c hc => ?others⟩
    case own => rw [buildReport_btn_buttonBit]; exact Vector.getElem_set_self _
    case others =>
      have hcb : b ≠ c := by rintro rfl; exact hj hc.symm
      exact Vector.getElem_set_ne _ _ (Fin.val_ne_of_ne (buttonPosition_injective.ne hcb))
  case direction =>
    refine BitVec.eq_of_getLsbD_eq fun j hj => buildReport_btn_congr (j := ⟨j, hj⟩) fun b _ => ?_
    exact Vector.getElem_set_ne _ _ (buttonPosition_ne_of_direction h4 h7 b).symm

end Sys2Proof.Machine
end

section
/-! SUPPORT. The host boundary's calls (43_hid_transport_boundary.md R180 to R183): a poll's bytes outside the buffer,
its refusals, and what each call answers. -/

namespace Sys2Proof.Machine

/-! ### A poll writes no byte outside the buffer -/

theorem State.mem_afterHeader_afterPositions (s : State) : s.beginPoll.afterHeader.afterPositions.mem = s.mem := by
  rw [State.afterPositions_eq, State.sampledTo_mem, State.beginPoll_afterHeader_eq]

/-- END's SERIALIZE is a poll's one write of bytes, and it writes the report buffer alone. -/
theorem State.readByte_afterPoll_outside (s : State) {k : Nat} (hk : 4 ≤ k) : s.afterPoll.readByte k = s.readByte k := by
  have hmem : s.afterPoll.mem = s.beginPoll.afterHeader.afterPositions.serialized.mem := by
    rw [State.afterPoll, State.afterPadding_afterTail_eq]
  calc s.afterPoll.readByte k = s.beginPoll.afterHeader.afterPositions.serialized.readByte k :=
        congrArg (Memory.read · k) hmem
    _ = s.beginPoll.afterHeader.afterPositions.readByte k := State.serialized_read_outside _ hk
    _ = s.readByte k := congrArg (Memory.read · k) s.mem_afterHeader_afterPositions

/-! ### The refusals of a poll -/

section
variable {s : State}

theorem runPoll_of_not_cfg (hc : s.cfg = false) : runPoll s = .refused .notConfigured := by
  rw [runPoll, startPoll, cfgTest_of_not_cfg hc, guarded_some, andThen_refused]

theorem runPoll_of_busy (hc : s.cfg = true) (hb : s.busy = true) : runPoll s = .refused .busy := by
  rw [runPoll, startPoll, guarded_cfg_busy_of_busy _ hc hb, andThen_refused]

/-- ONCREATEREPORT is refused as its poll is (43_hid_transport_boundary.md R180). -/
theorem exec_onCreateReport_of_refused {r : Refusal} (h : runPoll s = .refused r) :
    exec .onCreateReport s = .refused r := by
  rw [exec, execOnCreateReport, h, andThen_refused]

end

/-- Everything a poll leaves, with a result of it handed to the caller (41_shift_register_poller.md section 2). -/
theorem State.afterPoll_giveResult_eq (s : State) (r : Result) :
    s.afterPoll.giveResult r =
      { s with
        clock := .high, latch := .low, busy := false, upc := 63, sv := s.frameSamples
        x := (buildReport s.frameSamples).x
        y := (buildReport s.frameSamples).y
        btn := (buildReport s.frameSamples).btn
        mem := (s.afterPoll.giveResult r).mem, t := s.t + 21, tr := s.tr ++ frameEvents s.frameSamples
        results := s.results ++ [r]
        data := (s.afterPoll.giveResult r).data, env := s.env.drop 12
        draws := (s.afterPoll.giveResult r).draws } :=
  congrArg (State.giveResult · r) s.afterPoll_eq

/-- Settles O35: the answer is the poll's state with BUILD's bytes handed over, and the refusals are the poll's. -/
theorem onCreateReportReturnsThePollsReport : Obligations.OnCreateReportReturnsThePollsReport := by
  unfold Obligations.OnCreateReportReturnsThePollsReport
  refine fun s => ⟨fun hc hb hr => ⟨_, s.frameSamples, _, _, _, _, exec_onCreateReport_eq hc hb hr, rfl, ?buffer,
      fun k hk => ?outside, s.afterPoll_giveResult_eq _⟩,
    fun hc => exec_onCreateReport_of_refused (runPoll_of_not_cfg hc),
    fun hc hb => exec_onCreateReport_of_refused (runPoll_of_busy hc hb)⟩
  case buffer => rw [State.reportBytes_giveResult, State.reportBytes_afterPoll]; rfl
  case outside => rw [State.readByte_giveResult, s.readByte_afterPoll_outside hk]

/-! ### Host reports and lifecycle events -/

theorem exec_onHostReport (b : List Byte) (s : State) : exec (.onHostReport b) s = .next s := rfl

theorem exec_lifecycle (e : LifecycleEvent) (s : State) : exec (.lifecycle e) s = .next s := rfl

/-- Settles O36: either operation answers the state it is given, with no test before it. -/
theorem hostReportsAndLifecycleEventsHaveNoEffect : Obligations.HostReportsAndLifecycleEventsHaveNoEffect := by
  unfold Obligations.HostReportsAndLifecycleEventsHaveNoEffect
  exact fun s b e => ⟨exec_onHostReport b s, exec_lifecycle e s⟩

end Sys2Proof.Machine
end

section
/-! SUPPORT. Words and instructions, both ways, through the two fields of a word (30_encoding.md sections 6 to 8). -/

namespace Sys2Proof.Machine

/-! ### The two fields of a word -/

@[simp] theorem opField_wordOf (op arg : BitVec 4) : opField (wordOf op arg) = op := by
  simp only [opField, wordOf, BitVec.extractLsb'_append_eq_left]

@[simp] theorem argField_wordOf (op arg : BitVec 4) : argField (wordOf op arg) = arg := by
  simp only [argField, wordOf, BitVec.extractLsb'_append_eq_right]

theorem opField_toNat (w : Byte) : (opField w).toNat = w.toNat / 16 := by
  have := w.isLt
  simp only [opField, BitVec.extractLsb'_toNat, Nat.shiftRight_eq_div_pow]
  omega

theorem argField_toNat (w : Byte) : (argField w).toNat = w.toNat % 16 := by
  simp [argField, BitVec.extractLsb'_toNat]

/-- A word is its opcode and its argument (30_encoding.md R78). -/
theorem wordOf_opField_argField (w : Byte) : wordOf (opField w) (argField w) = w := by
  apply BitVec.eq_of_toNat_eq
  rw [wordOf, BitVec.toNat_append, opField_toNat, argField_toNat, Nat.shiftLeft_eq, mul_comm,
    ← Nat.two_pow_add_eq_or_of_lt (Nat.mod_lt _ (by decide))]
  exact Nat.div_add_mod _ _

theorem eq_wordOf {w : Byte} {op : Nat} {arg : BitVec 4} (hop : (opField w).toNat = op) (harg : argField w = arg) :
    w = wordOf (BitVec.ofNat 4 op) arg := by
  rw [← hop, ← harg, BitVec.ofNat_toNat, BitVec.setWidth_eq, wordOf_opField_argField]

/-! ### What the decoder reads -/

theorem decodeBare_eq_instr {w : Byte} {i j : Instr} (h : decodeBare w i = .instr j) : argField w = 0 ∧ j = i := by
  unfold decodeBare at h
  split at h
  · next harg => exact ⟨harg, (Decoded.instr.inj h).symm⟩
  · cases h

theorem argField_eq_bitOfLevel : ∀ a : BitVec 4, a.extractLsb' 1 3 = 0#3 →
    a = BitVec.ofNat 4 (bitOfLevel (levelOfBit (a.getLsbD 0))).toNat := by decide

theorem decodeLevel_eq_instr {w : Byte} {mk : Level → Instr} {j : Instr} (h : decodeLevel w mk = .instr j) :
    ∃ v, argField w = BitVec.ofNat 4 (bitOfLevel v).toNat ∧ j = mk v := by
  unfold decodeLevel at h
  split at h
  · next harg => exact ⟨_, argField_eq_bitOfLevel _ harg, (Decoded.instr.inj h).symm⟩
  · cases h

theorem decodeSample_of_lt {w : Byte} {p : Fin 12} (h : (argField w).toNat = p.val) :
    decodeSample w = .instr (sampleInstr p) := by
  unfold decodeSample
  rw [h]
  fin_cases p <;> rfl

theorem decodeSample_of_ge {w : Byte} (h : 12 ≤ (argField w).toNat) : decodeSample w = .reserved w := by
  have hrange : (argField w).toNat = 12 ∨ (argField w).toNat = 13 ∨ (argField w).toNat = 14 ∨
      (argField w).toNat = 15 := by have := (argField w).isLt; omega
  unfold decodeSample
  obtain h | h | h | h := hrange <;> simp only [h]

theorem decodeSample_eq_instr {w : Byte} {j : Instr} (h : decodeSample w = .instr j) :
    ∃ p : Fin 12, argField w = BitVec.ofNat 4 p.val ∧ j = sampleInstr p := by
  by_cases hp : (argField w).toNat < 12
  · rw [decodeSample_of_lt (p := ⟨_, hp⟩) rfl] at h
    exact ⟨⟨_, hp⟩, by simp, (Decoded.instr.inj h).symm⟩
  · rw [decodeSample_of_ge (by omega)] at h
    cases h

theorem encode_sampleInstr (p : Fin 12) : encode (sampleInstr p) = some (wordOf 0x4 (BitVec.ofNat 4 p.val)) := by
  fin_cases p <;> rfl

/-- Every word that decodes is the word of its instruction. -/
theorem encode_of_decodeWord {w : Byte} {i : Instr} (h : decodeWord w = .instr i) : encode i = some w := by
  unfold decodeWord at h
  split at h
  · next hop =>
    obtain ⟨harg, rfl⟩ := decodeBare_eq_instr h
    rw [eq_wordOf hop harg]; rfl
  · next hop =>
    obtain ⟨v, harg, rfl⟩ := decodeLevel_eq_instr h
    rw [eq_wordOf hop harg]; rfl
  · next hop =>
    obtain ⟨v, harg, rfl⟩ := decodeLevel_eq_instr h
    rw [eq_wordOf hop harg]; rfl
  · next hop =>
    obtain rfl := Decoded.instr.inj h
    rw [encode, if_pos (argField w).isLt, BitVec.ofNat_toNat, BitVec.setWidth_eq]
    exact congrArg some (eq_wordOf hop rfl).symm
  · next hop =>
    obtain ⟨p, harg, rfl⟩ := decodeSample_eq_instr h
    rw [eq_wordOf hop harg, encode_sampleInstr]; rfl
  · next hop =>
    obtain ⟨harg, rfl⟩ := decodeBare_eq_instr h
    rw [eq_wordOf hop harg]; rfl
  · cases h

/-! ### The word of an instruction -/

theorem hasWord (i : Instr) : Laws.HasWord.Statement i := by
  cases i with
  | setclk c v => exact Laws.HasWord.setclk c v
  | setlat c v => exact Laws.HasWord.setlat c v
  | wait c n => exact Laws.HasWord.wait c n
  | _ => rfl

theorem encode_isSome (i : Instr) : (encode i).isSome = (i.isMicroOp && i.wf) := hasWord i

theorem decodeWord_wait {n : Nat} (hn : n < 16) :
    decodeWord (wordOf 0x3 (BitVec.ofNat 4 n)) = .instr (.wait .micro n) := by
  simp [decodeWord, Nat.mod_eq_of_lt hn]

/-- The word of an instruction decodes to it. -/
theorem decodeWord_of_encode {w : Byte} {i : Instr} (h : encode i = some w) : decodeWord w = .instr i := by
  cases i with
  | setclk c v =>
    cases c with
    | micro => obtain rfl := Option.some.inj h; cases v <;> rfl
    | direct => cases h
  | setlat c v =>
    cases c with
    | micro => obtain rfl := Option.some.inj h; cases v <;> rfl
    | direct => cases h
  | wait c n =>
    cases c with
    | micro =>
      rw [encode, Option.ite_none_right_eq_some, Option.some.injEq] at h
      obtain ⟨hn, rfl⟩ := h
      exact decodeWord_wait hn
    | direct => cases h
  | endPoll | sample0 | sample1 | sample2 | sample3 | sample4 | sample5 | sample6 | sample7 | sample8 | sample9
  | sample10 | sample11 | rstrep => obtain rfl := Option.some.inj h; rfl
  | configure | readdata | toggle | poll | build | serialize | onCreateReport | onHostReport | lifecycle => cases h

/-- Settles O7: each direction carries the word's two fields over, and the instructions with a word are the well-formed
micro-operations. -/
theorem decodeInvertsEncode : Obligations.DecodeInvertsEncode := by
  unfold Obligations.DecodeInvertsEncode
  refine ⟨fun i rest hwf hmicro => ?hasWord, fun w i h => ?wordOfInstr, fun i hmicro => ?noWord⟩
  case hasWord =>
    obtain ⟨w, hw⟩ := Option.isSome_iff_exists.1 ((encode_isSome i).trans (by rw [hmicro, hwf]; rfl))
    exact ⟨w, hw, by rw [decode, decodeWord_of_encode hw]⟩
  case wordOfInstr =>
    have hw := encode_of_decodeWord h
    have hboth : (i.isMicroOp && i.wf) = true := by rw [← encode_isSome, hw]; rfl
    obtain ⟨hmicro, hwf⟩ := Bool.and_eq_true_iff.1 hboth
    exact ⟨hwf, hmicro, hw⟩
  case noWord =>
    refine Option.not_isSome_iff_eq_none.1 ?_
    rw [encode_isSome, hmicro]
    exact Bool.false_ne_true

/-! ### The reserved words -/

section
variable {w : Byte}

theorem decodeBare_eq_reserved_iff {i : Instr} : decodeBare w i = .reserved w ↔ (argField w).toNat ≠ 0 := by
  unfold decodeBare
  split <;> simp_all [BitVec.toNat_eq]

theorem extractLsb'_one_three_eq_zero_iff {a : BitVec 4} : a.extractLsb' 1 3 = 0#3 ↔ a.toNat < 2 := by
  revert a; decide

theorem decodeLevel_eq_reserved_iff {mk : Level → Instr} :
    decodeLevel w mk = .reserved w ↔ 2 ≤ (argField w).toNat := by
  unfold decodeLevel
  split
  · next harg => simpa using extractLsb'_one_three_eq_zero_iff.1 harg
  · next harg => simpa using Nat.le_of_not_lt (mt extractLsb'_one_three_eq_zero_iff.2 harg)

theorem decodeSample_eq_reserved_iff : decodeSample w = .reserved w ↔ 12 ≤ (argField w).toNat := by
  refine ⟨fun h => ?_, decodeSample_of_ge⟩
  by_contra hp
  rw [decodeSample_of_lt (p := ⟨_, Nat.lt_of_not_le hp⟩) rfl] at h
  cases h

/-- Which words are reserved, by their two fields (30_encoding.md R79 to R81). -/
theorem decodeWord_eq_reserved_iff :
    decodeWord w = .reserved w ↔
      (opField w).toNat = 0 ∧ (argField w).toNat ≠ 0 ∨ (opField w).toNat = 1 ∧ 2 ≤ (argField w).toNat ∨
      (opField w).toNat = 2 ∧ 2 ≤ (argField w).toNat ∨ (opField w).toNat = 4 ∧ 12 ≤ (argField w).toNat ∨
      (opField w).toNat = 5 ∧ (argField w).toNat ≠ 0 ∨ 6 ≤ (opField w).toNat := by
  unfold decodeWord
  split
  · next hop => rw [decodeBare_eq_reserved_iff, hop]; omega
  · next hop => rw [decodeLevel_eq_reserved_iff, hop]; omega
  · next hop => rw [decodeLevel_eq_reserved_iff, hop]; omega
  · next hop => rw [hop]; simp
  · next hop => rw [decodeSample_eq_reserved_iff, hop]; omega
  · next hop => rw [decodeBare_eq_reserved_iff, hop]; omega
  · simp only [imp_false, true_iff] at *; omega

end

/-- Settles O6: the ranges are the fields' conditions on the word as a number. -/
theorem reservedWordsAreTheListedRanges : Obligations.ReservedWordsAreTheListedRanges := by
  unfold Obligations.ReservedWordsAreTheListedRanges
  intro w
  have hw := w.isLt
  rw [decodeWord_eq_reserved_iff, opField_toNat, argField_toNat]
  simp only [BitVec.le_def, BitVec.toNat_ofNat]
  omega

/-- Settles O5: each word, read field by field. -/
theorem wordsOfTheOpcodeMapDecode : Obligations.WordsOfTheOpcodeMapDecode := by
  unfold Obligations.WordsOfTheOpcodeMapDecode
  exact ⟨rfl, rfl, rfl, rfl, rfl, rfl, rfl, rfl, rfl, rfl, rfl⟩

theorem eq_of_decodeWord_eq_reserved {w v : Byte} (h : decodeWord w = .reserved v) : v = w := by
  unfold decodeWord decodeBare decodeLevel decodeSample at h
  repeat' split at h
  all_goals cases h
  all_goals rfl

theorem decodeWord_ne_reserved_of_mem_microprogramBytes :
    ∀ w ∈ microprogramBytes, decodeWord w ≠ .reserved w := by decide

/-- Settles O8: the generated list is the listing, and each of its words is legal. -/
theorem microprogramFollowsTheIndexArithmetic : Obligations.MicroprogramFollowsTheIndexArithmetic := by
  unfold Obligations.MicroprogramFollowsTheIndexArithmetic
  refine ⟨by decide, rfl, rfl, fun w hw v hv => ?_⟩
  obtain rfl := eq_of_decodeWord_eq_reserved hv
  exact decodeWord_ne_reserved_of_mem_microprogramBytes _ hw hv

end Sys2Proof.Machine
end

section
/-! SUPPORT. The invariant, kept by each update of the state and so by each instruction that a step can run (10_state.md
sections 2 to 9, 20_memory.md sections 2 and 4). -/

namespace Sys2Proof.Machine

/-- Events go out on the bus: the trace gains them, the lines take the levels they drive, and `t` counts their waits. -/
def State.withEvents (s : State) (es : List Event) : State :=
  { s with
    clock := clockAfter s.clock es, latch := latchAfter s.latch es, t := s.t + waited es, tr := s.tr ++ es }

theorem State.driveClock_emit (s : State) (v : Level) : (s.driveClock v).emit (.clk v) = s.withEvents [.clk v] := rfl

theorem State.driveLatch_emit (s : State) (v : Level) : (s.driveLatch v).emit (.lat v) = s.withEvents [.lat v] := rfl

theorem State.addTime_emit (s : State) (n : Nat) : (s.addTime n).emit (.wt n) = s.withEvents [.wt n] := rfl

theorem State.emit_rd (s : State) (b : Bool) : s.emit (.rd b) = s.withEvents [.rd b] := rfl

theorem State.emit_rst (s : State) : s.emit .rst = s.withEvents [.rst] := rfl

theorem State.emit_endPoll (s : State) : s.emit .endPoll = s.withEvents [.endPoll] := rfl

/-! ### What every update keeps -/

section
variable {s : State} (h : Inv s)
include h

theorem Inv.withEvents {es : List Event} (hc : s.cfg = true) (hes : Event.cfg ∉ es) : Inv (s.withEvents es) :=
  { h with
    lines := fun hc => { h.lines hc with }
    unconfigured := fun hn => absurd (hn.symm.trans hc) Bool.false_ne_true
    configuredOnce := fun _ => by
      obtain ⟨before, htr, hbefore⟩ := h.configuredOnce hc
      exact ⟨before ++ es, congrArg (· ++ es) htr, by simp [hbefore, hes]⟩
    clockHeld := fun _ => by rw [State.withEvents, clockAfter_append, ← h.clockHeld hc]
    latchHeld := fun _ => by rw [State.withEvents, latchAfter_append, ← h.latchHeld hc]
    time := by rw [State.withEvents, waited_append, ← h.time] }

theorem Inv.withUpc (k : BitVec 6) : Inv { s with upc := k } := { h with lines := fun hc => { h.lines hc with } }

theorem Inv.stepIndex (c : Setting) : Inv (s.stepIndex c) := by
  rw [State.stepIndex_eq]; exact h.withUpc _

theorem Inv.setclk (hc : s.cfg = true) (c : Setting) (v : Level) :
    Inv (((s.driveClock v).emit (.clk v)).stepIndex c) := by
  rw [State.driveClock_emit]; exact (h.withEvents hc (by simp)).stepIndex c

theorem Inv.setlat (hc : s.cfg = true) (c : Setting) (v : Level) :
    Inv (((s.driveLatch v).emit (.lat v)).stepIndex c) := by
  rw [State.driveLatch_emit]; exact (h.withEvents hc (by simp)).stepIndex c

theorem Inv.wait (hc : s.cfg = true) (c : Setting) (n : Nat) :
    Inv (((s.addTime n).emit (.wt n)).stepIndex c) := by
  rw [State.addTime_emit]; exact (h.withEvents hc (by simp)).stepIndex c

theorem Inv.popCall : Inv s.popCall := { h with lines := fun hc => { h.lines hc with } }

theorem Inv.beginPoll (hc : s.cfg = true) : Inv s.beginPoll :=
  { h with lines := fun hc => { h.lines hc with }, busyConfigured := fun _ => hc }

theorem Inv.setIdle : Inv s.setIdle :=
  { h with lines := fun hc => { h.lines hc with }, busyConfigured := fun hb => absurd hb Bool.false_ne_true }

theorem Inv.giveResult {r : Result} (hr : resultLegal r) : Inv (s.giveResult r) :=
  { h with
    lines := fun hc => { h.lines hc with }
    returned := fun r' hr' => by
      rcases List.mem_append.1 hr' with hr' | hr'
      · exact h.returned r' hr'
      · rwa [List.mem_singleton.1 hr'] }

/-! ### Reads and samples -/

theorem Inv.envMove : Inv s.envMove :=
  { h with lines := fun hc => { h.lines hc with dataLines := by simp } }

theorem Inv.afterRead (hc : s.cfg = true) : Inv s.afterRead := by
  rw [State.afterRead, State.emit_rd]
  exact h.envMove.withEvents hc (by simp)

theorem Inv.recordSample (p : Fin 12) (b : Bool) : Inv (s.recordSample p b) :=
  { h with lines := fun hc => { h.lines hc with } }

theorem Inv.applyEffect {e : Effect} (hx : ∀ v, e = .setsX v → axisLegal v = true)
    (hy : ∀ v, e = .setsY v → axisLegal v = true) : Inv (s.applyEffect e) := by
  cases e with
  | setsButton b => exact { h with lines := fun hc => { h.lines hc with }, mask := setBit_maskLegal b h.mask }
  | setsX v => exact { h with lines := fun hc => { h.lines hc with }, axisX := hx v rfl }
  | setsY v => exact { h with lines := fun hc => { h.lines hc with }, axisY := hy v rfl }

omit h in
theorem axisLegal_of_positionEffect (p : Fin 12) (v : BitVec 8)
    (he : positionEffect p = .setsX v ∨ positionEffect p = .setsY v) : axisLegal v = true := by
  fin_cases p <;> rcases he with he | he <;> cases he <;> rfl

theorem Inv.effectAt (p : Fin 12) (b : Bool) : Inv (s.effectAt p b) := by
  cases b with
  | false => exact h
  | true =>
    exact h.applyEffect (fun v he => axisLegal_of_positionEffect p v (.inl he))
      fun v he => axisLegal_of_positionEffect p v (.inr he)

theorem Inv.afterSample (hc : s.cfg = true) (p : Fin 12) : Inv (s.afterSample p) :=
  (((h.afterRead hc).recordSample p _).effectAt p _).withUpc _

/-! ### The report -/

theorem Inv.clearReport : Inv s.clearReport :=
  { h with lines := fun hc => { h.lines hc with }, axisX := rfl, axisY := rfl, mask := maskLegal_zero }

theorem Inv.afterRst (hc : s.cfg = true) : Inv s.afterRst := by
  rw [State.afterRst, State.emit_rst]
  exact (h.clearReport.withEvents hc (by simp)).withUpc _

theorem Inv.withBuffer {m : Memory} (hwf : Memory.wf m = true)
    (hm : { s with mem := m : State }.reportBytes = (wireFormat s.reportRegs).map some) : Inv { s with mem := m } :=
  { h with
    lines := fun hc => { h.lines hc with }
    memory := hwf
    buffer := .inr ⟨s.reportRegs, h.axisX, h.axisY, h.mask, hm⟩ }

theorem Inv.serialized : Inv s.serialized := by
  rw [State.serialized_eq]
  exact h.withBuffer (State.wf_serialized h.memory) s.serialized_reportBytes

theorem Inv.afterEnd (hc : s.cfg = true) : Inv s.afterEnd := by
  rw [State.afterEnd, State.emit_endPoll]
  exact h.serialized.setIdle.withEvents (by simpa using hc) (by simp)

/-! ### CONFIGURE -/

theorem Inv.configureLines {m : PinMap} (hm : m.wf = true) (hc : s.cfg = false) :
    Inv ((s.configureLines m).emit .cfg) :=
  have htr : s.tr = [] := h.unconfigured hc
  { h with
    busyConfigured := fun _ => rfl
    lines := fun _ => ⟨hm, rfl, rfl, rfl, rfl, by simp⟩
    unconfigured := fun hn => by simp at hn
    configuredOnce := fun _ => ⟨[], by simp [htr], List.not_mem_nil⟩
    clockHeld := fun _ => by simp [htr, clockAfter]
    latchHeld := fun _ => by simp [htr, latchAfter]
    time := by simp [htr, h.time, waited] }

/-! ### Whole instructions -/

theorem Inv.toggle (hc : s.cfg = true) (k : BitVec 6) :
    Inv { s with clock := .low, t := s.t + Config.tPulse, tr := s.tr ++ pulseEvents, upc := k } :=
  (h.withEvents (es := pulseEvents) hc (by simp [pulseEvents])).withUpc k

/-- A configured block keeps the invariant under every instruction with a word. -/
theorem Inv.microOp {i : Instr} {t : State} (hc : s.cfg = true) (hi : i.isMicroOp = true) (he : exec i s = .next t) :
    Inv t := by
  have ha := exec_answers he
  cases i with
  | endPoll => obtain rfl := ha; exact h.afterEnd hc
  | rstrep => obtain rfl := ha; exact h.afterRst hc
  | setclk c v => obtain ⟨-, rfl⟩ := ha; exact h.setclk hc c v
  | setlat c v => obtain ⟨-, rfl⟩ := ha; exact h.setlat hc c v
  | wait c n => obtain ⟨-, rfl⟩ := ha; exact h.wait hc c n
  | sample0 | sample1 | sample2 | sample3 | sample4 | sample5 | sample6 | sample7 | sample8 | sample9 | sample10
  | sample11 => obtain ⟨-, rfl⟩ := ha; exact h.afterSample hc _
  | configure | readdata | toggle | poll | build | serialize | onCreateReport | onHostReport | lifecycle => cases hi

theorem Inv.runPoll {u : State} (hu : runPoll s = .next u) : Inv u := by
  obtain ⟨hc, -, -⟩ := runPoll_eq_next hu
  refine (runPoll_keeps (P := fun a => Inv a ∧ a.cfg = true) ⟨h, hc⟩ ?start ?micro hu).1
  case start => exact fun ⟨ha, hca⟩ => ⟨ha.beginPoll hca, hca⟩
  case micro =>
    intro i a b hi hab ⟨ha, hca⟩
    obtain ⟨-, -, -, -, -, hcb, -⟩ := State.configuration_eq_iff.1 (exec_microOp_configuration hi hab)
    exact ⟨ha.microOp hca hi hab, hcb.trans hca⟩

/-- The bytes a poll leaves in the buffer may be given to the host (43_hid_transport_boundary.md R180, R185). -/
theorem Inv.resultLegal_of_runPoll {u : State} {b0 b1 b2 b3 : Byte} (hu : Machine.runPoll s = .next u)
    (hbytes : u.reportBytes = [some b0, some b1, some b2, some b3]) : resultLegal (.bytes b0 b1 b2 b3 false) := by
  obtain ⟨hc, hb, -⟩ := runPoll_eq_next hu
  obtain rfl := next_inj ((runPoll_eq hc hb h.rom).symm.trans hu)
  rw [State.reportBytes_afterPoll] at hbytes
  have hlist : (wireFormat (buildReport s.frameSamples)).map some = [b0, b1, b2, b3].map some := hbytes
  exact ⟨rfl, _, (List.map_injective_iff.2 (Option.some_injective _) hlist).symm⟩

/-- The invariant is kept by every call the step admits (43_hid_transport_boundary.md R184). -/
theorem Inv.call {i : Instr} {t : State} (hi : admitted i = true) (he : exec i s = .next t) : Inv t := by
  obtain ⟨hcall, hwf⟩ := Bool.and_eq_true_iff.1 hi
  have ha := exec_answers he
  cases i with
  | configure m => obtain ⟨hc, rfl⟩ := ha; exact h.configureLines hwf hc
  | readdata => obtain ⟨hc, rfl⟩ := ha; exact (h.afterRead hc).giveResult trivial
  | setclk c v => obtain ⟨hc, rfl⟩ := ha; exact h.setclk hc c v
  | setlat c v => obtain ⟨hc, rfl⟩ := ha; exact h.setlat hc c v
  | wait c n =>
    obtain ⟨hdirect, rfl⟩ := ha
    cases c with
    | micro => cases hcall
    | direct => exact h.wait (hdirect rfl) .direct n
  | toggle c => obtain ⟨hc, ht⟩ := ha; rw [ht]; exact h.toggle hc _
  | poll => obtain ⟨u, hu, rfl⟩ := ha; exact (h.runPoll hu).giveResult trivial
  | build sv => obtain rfl := ha; exact h.giveResult ⟨sv, rfl⟩
  | onCreateReport =>
    obtain ⟨u, b0, b1, b2, b3, hu, hbytes, rfl⟩ := ha
    exact (h.runPoll hu).giveResult (h.resultLegal_of_runPoll hu hbytes)
  | onHostReport | lifecycle => obtain rfl := ha; exact h
  | endPoll | sample0 | sample1 | sample2 | sample3 | sample4 | sample5 | sample6 | sample7 | sample8 | sample9
  | sample10 | sample11 | rstrep | serialize => cases hcall

end

/-! ### The step -/

/-- A step that goes on is of an unmarked state: a micro-operation of the poll in progress, a call of the host, or
standing idle with no call. -/
theorem step_eq_next {s t : State} (h : step s = .next t) :
    s.refused = false ∧
      ((s.busy = true ∧ ∃ i, i.isMicroOp = true ∧ exec i s = .next t) ∨
       (s.busy = false ∧ ∃ i, admitted i = true ∧ exec i s.popCall = .next t) ∨
       (s.busy = false ∧ t = s)) := by
  cases hm : s.refused with
  | true => simp [step, hm] at h
  | false =>
    refine ⟨rfl, ?_⟩
    cases hb : s.busy with
    | true =>
      rw [step_of_busy hm hb] at h
      obtain ⟨i, hi, he⟩ := sequencerStep_eq_next h
      exact .inl ⟨rfl, i, isMicroOp_of_decode hi, he⟩
    | false =>
      cases hcalls : s.calls with
      | nil =>
        simp only [step, hm, hb, hcalls] at h
        exact .inr (.inr ⟨rfl, next_inj h⟩)
      | cons i rest =>
        cases hi : admitted i with
        | false => simp [step, hm, hb, hcalls, hi] at h
        | true =>
          refine .inr (.inl ⟨rfl, i, hi, ?_⟩)
          simpa [step, hm, hb, hcalls, hi] using h

/-- Settles O47: a step is a micro-operation of a configured block, a call the step admits, or no change. -/
theorem everyStepKeepsTheInvariant : Obligations.EveryStepKeepsTheInvariant := by
  unfold Obligations.EveryStepKeepsTheInvariant
  intro s t h hstep
  obtain ⟨-, ⟨hb, i, hi, he⟩ | ⟨-, i, hi, he⟩ | ⟨-, rfl⟩⟩ := step_eq_next hstep
  · exact h.microOp (h.busyConfigured hb) hi he
  · exact h.popCall.call hi he
  · exact h

/-- Settles O46: nothing is configured, sampled, written or returned at power-on. -/
theorem invariantHoldsAtPowerOn : Obligations.InvariantHoldsAtPowerOn where
  rom := rfl
  busyConfigured hb := absurd hb Bool.false_ne_true
  lines hc := absurd hc Bool.false_ne_true
  unconfigured _ := rfl
  configuredOnce hc := absurd hc Bool.false_ne_true
  clockHeld hc := absurd hc Bool.false_ne_true
  latchHeld hc := absurd hc Bool.false_ne_true
  time := rfl
  axisX := rfl
  axisY := rfl
  mask := maskLegal_zero
  memory := reset_memory_wf
  buffer := .inl rfl
  returned _ hr := absurd hr List.not_mem_nil

/-- Where the sequencer of a busy block stands, under the invariant. -/
theorem Inv.inPoll {s : State} (h : Inv s) (hb : s.busy = true) : InPoll s s.upc.toNat :=
  ⟨hb, h.busyConfigured hb, h.rom, by simp⟩

/-- Settles O27: before index 63 the listing's word goes on, and the word at 63 is END. -/
theorem pollInProgressIsNeverHeldUp : Obligations.PollInProgressIsNeverHeldUp := by
  unfold Obligations.PollInProgressIsNeverHeldUp
  intro s h hm hb
  have hin := h.inPoll hb
  have hlast : s.upc.toNat < 63 ∨ s.upc.toNat = 63 := by have := s.upc.isLt; omega
  rcases hlast with hk | hk
  · obtain ⟨t, ht, -⟩ := hin.sequencerStep hm hk
    exact ⟨t, (step_of_busy hm hb).trans ht⟩
  · rw [hk] at hin
    exact ⟨_, hin.endStep hm⟩

end Sys2Proof.Machine
end

section
/-! SUPPORT. The mark, and runs in the two readings of a refusal (60_exceptions.md section 4, 10_state.md section 7). -/

namespace Sys2Proof.Machine

theorem exec_refused {i : Instr} {s t : State} (h : exec i s = .next t) : t.refused = s.refused := by
  by_cases hi : ∃ m, i = .configure m
  · obtain ⟨m, rfl⟩ := hi
    obtain ⟨-, rfl⟩ := exec_answers h
    rfl
  · obtain ⟨-, -, -, -, -, -, -, hm⟩ :=
      State.configuration_eq_iff.1 (exec_configuration h fun m he => hi ⟨m, he⟩)
    exact hm

theorem step_of_refused {s : State} (h : s.refused = true) : step s = .refused .runRefused := by
  simp [step, h]

/-- A step that goes on ends unmarked. -/
theorem step_refused {s t : State} (h : step s = .next t) : t.refused = false := by
  obtain ⟨hm, ⟨-, i, -, he⟩ | ⟨-, i, -, he⟩ | ⟨-, rfl⟩⟩ := step_eq_next h
  · exact (exec_refused he).trans hm
  · exact (exec_refused he).trans hm
  · exact hm

/-- Settles O4: no instruction writes the mark, and the step tests it first. -/
theorem markedStateHasNoStepAndNoInstructionTouchesTheMark :
    Obligations.MarkedStateHasNoStepAndNoInstructionTouchesTheMark := by
  unfold Obligations.MarkedStateHasNoStepAndNoInstructionTouchesTheMark
  exact ⟨fun _ => step_of_refused, fun _ _ _ => exec_refused, fun _ _ h => ⟨(step_eq_next h).1, step_refused h⟩⟩

/-! ### Runs in the two readings -/

section
variable {s : State} (n : Nat)

theorem State.markRefused_of_refused (h : s.refused = true) : s.markRefused = s := by
  cases s; cases h; rfl

/-- A marked state stays as it is in the first reading. -/
theorem markedRun_of_refused (h : s.refused = true) : markedRun n s = s := by
  induction n with
  | zero => rfl
  | succ n ih => rw [markedRun, step_of_refused h, settle, State.markRefused_of_refused h, ih]

theorem markedRun_of_next {u : State} (h : step s = .next u) : markedRun (n + 1) s = markedRun n u := by
  rw [markedRun, h, settle]

theorem markedRun_of_stop (h : settle s (step s) = s.markRefused) : markedRun (n + 1) s = s.markRefused := by
  rw [markedRun, h, markedRun_of_refused n rfl]

theorem run_of_next {u : State} (h : step s = .next u) :
    Host.Core.run Sys2Proof.core (n + 1) s = Host.Core.run Sys2Proof.core n u := by
  have hs : Sys2Proof.core.step s = .next u := h
  simp only [Host.Core.run, hs]

theorem run_of_fault {r : Fault} (h : step s = .fault r) : Host.Core.run Sys2Proof.core (n + 1) s = .fault r := by
  have hs : Sys2Proof.core.step s = .fault r := h
  simp only [Host.Core.run, hs]

theorem run_of_refused {r : Refusal} (h : step s = .refused r) :
    Host.Core.run Sys2Proof.core (n + 1) s = .refused r := by
  have hs : Sys2Proof.core.step s = .refused r := h
  simp only [Host.Core.run, hs]

end

/-- A run that meets a stop at its first step ends marked in the one reading, and in no state in the other. -/
theorem markedRun_iff_of_stop {n : Nat} {s t : State} (hstop : settle s (step s) = s.markRefused)
    (hrun : Host.Core.run Sys2Proof.core (n + 1) s ≠ .next t) :
    (markedRun (n + 1) s = t ∧ t.refused = false) ↔ Host.Core.run Sys2Proof.core (n + 1) s = .next t := by
  refine iff_of_false ?_ hrun
  rw [markedRun_of_stop n hstop]
  rintro ⟨rfl, hm⟩
  cases hm

theorem markedRun_iff_run (n : Nat) {s t : State} (hs : s.refused = false) :
    (markedRun n s = t ∧ t.refused = false) ↔ Host.Core.run Sys2Proof.core n s = .next t := by
  induction n generalizing s with
  | zero =>
    refine ⟨?_, fun h => ?_⟩
    · rintro ⟨rfl, -⟩; rfl
    · obtain rfl := next_inj h; exact ⟨rfl, hs⟩
  | succ n ih =>
    cases hstep : step s with
    | next u => rw [markedRun_of_next n hstep, run_of_next n hstep, ih (step_refused hstep)]
    | fault r => exact markedRun_iff_of_stop (by rw [hstep]; rfl) (by rw [run_of_fault n hstep]; nofun)
    | refused r => exact markedRun_iff_of_stop (by rw [hstep]; rfl) (by rw [run_of_refused n hstep]; nofun)

/-- Settles O48: by induction on the number of steps, since a marked state has no further step. -/
theorem runEndsUnmarkedExactlyWhenNothingWasRefused : Obligations.RunEndsUnmarkedExactlyWhenNothingWasRefused := by
  unfold Obligations.RunEndsUnmarkedExactlyWhenNothingWasRefused
  exact ⟨fun n s t hs => markedRun_iff_run n hs, fun n s r h => markedRun_of_stop n (by rw [h]; rfl)⟩

end Sys2Proof.Machine
end

section
/-! SUPPORT. Which instructions write the buffer and the data registers, and what every instruction appends to the trace
(10_state.md sections 5 and 7, 20_memory.md sections 2 and 4). -/

namespace Sys2Proof.Machine

/-! ### The report buffer -/

/-- Of the instructions that run no poll, END and SERIALIZE alone write the buffer. -/
theorem Answers.mem {s t : State} {i : Instr} (h : Answers s i t) (hend : i ≠ .endPoll) (hser : i ≠ .serialize)
    (hpoll : i ≠ .poll) (hreport : i ≠ .onCreateReport) : t.mem = s.mem := by
  cases i with
  | rstrep | build | onHostReport | lifecycle => obtain rfl := h; rfl
  | setclk | setlat | wait => obtain ⟨-, rfl⟩ := h; exact State.stepIndex_mem _ _
  | sample0 | sample1 | sample2 | sample3 | sample4 | sample5 | sample6 | sample7 | sample8 | sample9 | sample10
  | sample11 => obtain ⟨-, rfl⟩ := h; rw [State.afterSample_eq]
  | configure | readdata => obtain ⟨-, rfl⟩ := h; rfl
  | toggle => obtain ⟨-, h⟩ := h; rw [h]
  | endPoll => exact absurd rfl hend
  | serialize => exact absurd rfl hser
  | poll => exact absurd rfl hpoll
  | onCreateReport => exact absurd rfl hreport

/-- Settles O42: a byte is read from the buffer, which the other instructions do not write. -/
theorem bufferIsWrittenOnlyAtEnd : Obligations.BufferIsWrittenOnlyAtEnd := by
  unfold Obligations.BufferIsWrittenOnlyAtEnd
  intro i s t h hend hser hpoll hreport k
  exact congrArg (Memory.read · k) ((exec_answers h).mem hend hser hpoll hreport)

/-! ### The data registers -/

section
variable (s : State) {p : Fin 12}

theorem State.afterSample_x (hp : ∀ v, positionEffect p ≠ .setsX v) : (s.afterSample p).x = s.x := by
  rw [State.afterSample_eq]
  cases s.nextSample with
  | false => rfl
  | true =>
    rw [State.effectAt_true]
    cases he : positionEffect p with
    | setsX v => exact absurd he (hp v)
    | setsY v => rfl
    | setsButton b => rfl

theorem State.afterSample_y (hp : ∀ v, positionEffect p ≠ .setsY v) : (s.afterSample p).y = s.y := by
  rw [State.afterSample_eq]
  cases s.nextSample with
  | false => rfl
  | true =>
    rw [State.effectAt_true]
    cases he : positionEffect p with
    | setsX v => rfl
    | setsY v => exact absurd he (hp v)
    | setsButton b => rfl

theorem State.afterSample_btn (hp : ∀ b, positionEffect p ≠ .setsButton b) : (s.afterSample p).btn = s.btn := by
  rw [State.afterSample_eq]
  cases s.nextSample with
  | false => rfl
  | true =>
    rw [State.effectAt_true]
    cases he : positionEffect p with
    | setsX v => rfl
    | setsY v => rfl
    | setsButton b => exact absurd he (hp b)

end

/-- The instructions that are neither a sample, RSTREP nor a poll write no data register. -/
theorem Answers.dataRegisters {s t : State} {i : Instr} (h : Answers s i t) (hsample : ∀ p, i ≠ sampleInstr p)
    (hrst : i ≠ .rstrep) (hpoll : i ≠ .poll) (hreport : i ≠ .onCreateReport) :
    t.reportRegs = s.reportRegs ∧ t.sv = s.sv := by
  cases i with
  | endPoll => obtain rfl := h; rw [State.afterEnd_eq]; exact ⟨rfl, rfl⟩
  | serialize => obtain rfl := h; rw [State.serialized_eq]; exact ⟨rfl, rfl⟩
  | build | onHostReport | lifecycle => obtain rfl := h; exact ⟨rfl, rfl⟩
  | setclk | setlat | wait => obtain ⟨-, rfl⟩ := h; rw [State.stepIndex_eq]; exact ⟨rfl, rfl⟩
  | configure | readdata => obtain ⟨-, rfl⟩ := h; exact ⟨rfl, rfl⟩
  | toggle => obtain ⟨-, h⟩ := h; rw [h]; exact ⟨rfl, rfl⟩
  | sample0 => exact absurd rfl (hsample 0)
  | sample1 => exact absurd rfl (hsample 1)
  | sample2 => exact absurd rfl (hsample 2)
  | sample3 => exact absurd rfl (hsample 3)
  | sample4 => exact absurd rfl (hsample 4)
  | sample5 => exact absurd rfl (hsample 5)
  | sample6 => exact absurd rfl (hsample 6)
  | sample7 => exact absurd rfl (hsample 7)
  | sample8 => exact absurd rfl (hsample 8)
  | sample9 => exact absurd rfl (hsample 9)
  | sample10 => exact absurd rfl (hsample 10)
  | sample11 => exact absurd rfl (hsample 11)
  | rstrep => exact absurd rfl hrst
  | poll => exact absurd rfl hpoll
  | onCreateReport => exact absurd rfl hreport

/-- Settles O43: a sample writes SV and the register of its position's effect, and the other instructions write none. -/
theorem dataRegistersChangeOnlyByTheirWriters : Obligations.DataRegistersChangeOnlyByTheirWriters := by
  unfold Obligations.DataRegistersChangeOnlyByTheirWriters
  intro i s t h hpoll hreport hrst
  by_cases hi : ∃ p, i = sampleInstr p
  · obtain ⟨p, rfl⟩ := hi
    obtain ⟨-, rfl⟩ := sampleAt_eq_next ((exec_sampleInstr p s).symm.trans h)
    refine ⟨fun h6 h7 => s.afterSample_x ?x, fun h4 h5 => s.afterSample_y ?y, fun hb => s.afterSample_btn ?btn,
      fun hsv => absurd ?sv hsv⟩
    case x => revert h6 h7; fin_cases p <;> simp [sampleInstr, positionEffect]
    case y => revert h4 h5; fin_cases p <;> simp [sampleInstr, positionEffect]
    case btn => revert hb; fin_cases p <;> simp [sampleInstr, positionEffect]
    case sv => fin_cases p <;> simp [sampleInstr]
  · obtain ⟨hregs, hsv⟩ := (exec_answers h).dataRegisters (fun p hp => hi ⟨p, hp⟩) hrst hpoll hreport
    exact ⟨fun _ _ => congrArg Report.x hregs, fun _ _ => congrArg Report.y hregs, fun _ => congrArg Report.btn hregs,
      fun _ => hsv⟩

/-! ### The trace -/

/-- The trace of `t` is that of `s` with events appended, and its time has their waits added (10_state.md R37, R38). -/
def TraceExtends (s t : State) : Prop := ∃ es, t.tr = s.tr ++ es ∧ t.t = s.t + waited es

theorem TraceExtends.refl (s : State) : TraceExtends s s := ⟨[], (List.append_nil _).symm, rfl⟩

theorem TraceExtends.trans {s t u : State} (hst : TraceExtends s t) (htu : TraceExtends t u) : TraceExtends s u := by
  obtain ⟨es, htr, ht⟩ := hst
  obtain ⟨fs, htr', ht'⟩ := htu
  exact ⟨es ++ fs, by rw [htr', htr, List.append_assoc], by rw [ht', ht, waited_append, Nat.add_assoc]⟩

/-- Every instruction extends the trace, if the poll it may run does. -/
theorem Answers.traceExtends {s t : State} {i : Instr} (h : Answers s i t)
    (hpoll : ∀ u, runPoll s = .next u → i.isMicroOp = false → TraceExtends s u) : TraceExtends s t := by
  cases i with
  | endPoll => obtain rfl := h; rw [State.afterEnd_eq]; exact ⟨[.endPoll], rfl, rfl⟩
  | rstrep => obtain rfl := h; exact ⟨[.rst], rfl, rfl⟩
  | serialize => obtain rfl := h; rw [State.serialized_eq]; exact TraceExtends.refl s
  | build | onHostReport | lifecycle => obtain rfl := h; exact TraceExtends.refl _
  | setclk c v => obtain ⟨-, rfl⟩ := h; exact ⟨[.clk v], by simp, by simp [waited]⟩
  | setlat c v => obtain ⟨-, rfl⟩ := h; exact ⟨[.lat v], by simp, by simp [waited]⟩
  | wait c n => obtain ⟨-, rfl⟩ := h; exact ⟨[.wt n], by simp, by simp [waited]⟩
  | sample0 | sample1 | sample2 | sample3 | sample4 | sample5 | sample6 | sample7 | sample8 | sample9 | sample10
  | sample11 => obtain ⟨-, rfl⟩ := h; rw [State.afterSample_eq]; exact ⟨[.rd s.nextSample], rfl, rfl⟩
  | configure m => obtain ⟨-, rfl⟩ := h; exact ⟨[.cfg], rfl, rfl⟩
  | readdata => obtain ⟨-, rfl⟩ := h; exact ⟨[.rd s.nextSample], rfl, rfl⟩
  | toggle => obtain ⟨-, h⟩ := h; rw [h]; exact ⟨pulseEvents, rfl, rfl⟩
  | poll => obtain ⟨u, hu, rfl⟩ := h; exact hpoll u hu rfl
  | onCreateReport => obtain ⟨u, _, _, _, _, hu, -, rfl⟩ := h; exact hpoll u hu rfl

theorem runPoll_traceExtends {s u : State} (h : runPoll s = .next u) : TraceExtends s u :=
  runPoll_keeps (P := TraceExtends s) (TraceExtends.refl s) id
    (fun _ _ _ hi hab ha => ha.trans ((exec_answers hab).traceExtends fun _ _ hn => by simp [hi] at hn)) h

/-- Settles O44: instruction by instruction, and for a poll micro-operation by micro-operation. -/
theorem traceOnlyGrowsAndTimeCountsItsWaits : Obligations.TraceOnlyGrowsAndTimeCountsItsWaits := by
  unfold Obligations.TraceOnlyGrowsAndTimeCountsItsWaits
  exact fun i s t h => (exec_answers h).traceExtends fun _ hu _ => runPoll_traceExtends hu

end Sys2Proof.Machine
end

section
/-! SUPPORT. What a poll answers, and the report of the samples read so far (41_shift_register_poller.md sections 1 and
2, 42_report_builder.md section 3). -/

namespace Sys2Proof.Machine

theorem length_frameEvents (b : SampleVector) : (frameEvents b).length = 64 := by
  simp [frameEvents, pulseEvents, Config.nPad, List.length_flatMap]

/-- Settles O18: POLL's answer and the fields of the state after a whole poll. -/
theorem pollRunsOneFrame : Obligations.PollRunsOneFrame := by
  unfold Obligations.PollRunsOneFrame
  refine fun s hc hb hr => ⟨_, s.frameSamples, exec_poll_eq hc hb hr, s.afterPoll_giveResult_eq _, ?buffer,
    fun k hk => ?outside, length_frameEvents _, samplesRead_frameEvents _⟩
  case buffer => rw [State.reportBytes_giveResult, State.reportBytes_afterPoll]
  case outside => rw [State.readByte_giveResult, s.readByte_afterPoll_outside hk]

/-- Settles O22: the frame's samples are the environment's answers, and the report is the frame's. -/
theorem idealPollReportsItsVector : Obligations.IdealPollReportsItsVector := by
  unfold Obligations.IdealPollReportsItsVector
  intro s v hc hb hr hwf henv
  obtain rfl := henv.frameSamples_eq hwf
  refine ⟨_, exec_poll_eq hc hb hr, ?samples, ?registers, ?buffer⟩
  case samples => rw [State.giveResult_sv, State.afterPoll_sv]
  case registers => rw [State.reportRegs_giveResult, State.reportRegs_afterPoll]
  case buffer => rw [State.reportBytes_giveResult, State.reportBytes_afterPoll]

/-! ### The parts of a frame -/

/-- The events of the first four words (41_shift_register_poller.md R121, steps 1 to 3). -/
def headerEvents : List Event := [.clk .high, .lat .high, .rst, .lat .low]

/-- The events of positions whose samples are `bs`: one pulse and one read each (R121, step 4). -/
def positionEvents (bs : List Bool) : List Event := bs.flatMap fun v => pulseEvents ++ [.rd v]

/-- The events after the last position: the padding pulses, the settle wait, CLOCK High and END (R121, steps 5 to 7). -/
def closingEvents : List Event :=
  (List.replicate Config.nPad pulseEvents).flatten ++ [.wt Config.tSettle, .clk .high, .endPoll]

theorem frameEvents_eq (b : SampleVector) :
    frameEvents b = headerEvents ++ positionEvents b.toList ++ closingEvents := List.append_assoc _ _ _

theorem positionEvents_cons (b : Bool) (bs : List Bool) :
    positionEvents (b :: bs) = [.clk .high, .wt Config.tPulse, .clk .low, .rd b] ++ positionEvents bs := rfl

theorem positionEvents_append (bs bs' : List Bool) :
    positionEvents (bs ++ bs') = positionEvents bs ++ positionEvents bs' := List.flatMap_append

theorem length_positionEvents (bs : List Bool) : (positionEvents bs).length = 4 * bs.length := by
  induction bs with
  | nil => rfl
  | cons b bs ih => rw [positionEvents_cons, List.length_append, ih, List.length_cons]; simp +arith

theorem samplesRead_header_positions (bs : List Bool) : samplesRead (headerEvents ++ positionEvents bs) = bs := by
  rw [samplesRead_append, positionEvents, samplesRead_flatMap_pulse]; rfl

/-! ### The report of the samples so far -/

theorem Report.afterEffect_false (r : Report) (p : Fin 12) : Report.afterEffect r p false = r := rfl

/-- The report of the first `k` samples depends on these alone. -/
theorem reportUpTo_congr {sv sv' : SampleVector} {k : Nat} (hk : k ≤ 12)
    (h : ∀ p : Fin 12, p.val < k → sv'[p] = sv[p]) : reportUpTo sv' k = reportUpTo sv k := by
  induction k with
  | zero => rfl
  | succ k ih =>
    have hlast : sv'[k] = sv[k] := h ⟨k, hk⟩ (Nat.lt_succ_self k)
    rw [reportUpTo_succ _ hk, reportUpTo_succ _ hk, hlast, ih (by omega) fun p hp => h p (by omega)]

/-- False samples from position `k` on add nothing to the report. -/
theorem reportUpTo_eq_of_false {sv : SampleVector} {k n : Nat} (hkn : k ≤ n) (hn : n ≤ 12)
    (h : ∀ p : Fin 12, k ≤ p.val → sv[p] = false) : reportUpTo sv n = reportUpTo sv k := by
  induction n, hkn using Nat.le_induction with
  | base => rfl
  | succ n hkn ih =>
    have hlast : sv[n] = false := h ⟨n, hn⟩ hkn
    rw [reportUpTo_succ _ hn, hlast, Report.afterEffect_false, ih (by omega) h]

/-- BUILD of a vector that holds the first `k` samples and false beyond is the report of these samples. -/
theorem buildReport_eq_reportUpTo {sv sv' : SampleVector} {k : Nat} (hk : k ≤ 12)
    (hread : ∀ p : Fin 12, p.val < k → sv'[p] = sv[p]) (hrest : ∀ p : Fin 12, k ≤ p.val → sv'[p] = false) :
    buildReport sv' = reportUpTo sv k :=
  calc buildReport sv' = reportUpTo sv' 12 := (reportUpTo_all sv').symm
    _ = reportUpTo sv' k := reportUpTo_eq_of_false hk le_rfl hrest
    _ = reportUpTo sv k := reportUpTo_congr hk hread

/-! ### The stages of a poll -/

section
variable (s : State) {k : Nat}

/-- SV after the first `k` positions (42_report_builder.md R166). -/
theorem State.sampledTo_sv_getElem (hk : k ≤ 12) (p : Fin 12) :
    (s.beginPoll.afterHeader.sampledTo k).sv[p] = if p.val < k then s.frameSamples[p] else false :=
  State.sampledTo_sv _ s.beginPoll_afterHeader_sv hk p.val p.isLt

/-- After the first `k` positions the trace has gained the header and those positions' events. -/
theorem State.sampledTo_tr_eq (hk : k ≤ 12) : (s.beginPoll.afterHeader.sampledTo k).tr =
    s.tr ++ (headerEvents ++ positionEvents (s.frameSamples.toList.take k)) := by
  rw [State.sampledTo_tr _ hk, State.beginPoll_afterHeader_tr, List.append_assoc, State.frameSamples,
    State.pollSamples_toList, ← List.map_take, List.take_range, Nat.min_eq_left hk]
  rfl

theorem run_sampledTo {s : State} (hc : s.cfg = true) (hr : s.rom = microprogram) (hm : s.refused = false)
    (hk : k ≤ 12) :
    Host.Core.run Sys2Proof.core (4 + 4 * k) s.beginPoll = .next (s.beginPoll.afterHeader.sampledTo k) :=
  have h0 := InPoll.begin hc hr
  run_trans (h0.runHeader hm) (h0.afterHeader.runPositions hm hk)

end

/-- Settles O26: after `k` positions SV, the trace and the report registers are those of the frame's first `k`
samples. -/
theorem registersAreBuildOfTheSamplesSoFar : Obligations.RegistersAreBuildOfTheSamplesSoFar := by
  unfold Obligations.RegistersAreBuildOfTheSamplesSoFar
  intro s k hc _ hr hm hk
  have hes := samplesRead_header_positions (s.frameSamples.toList.take k)
  have hread : ∀ p : Fin 12, p.val < k → (s.beginPoll.afterHeader.sampledTo k).sv[p] = s.frameSamples[p] :=
    fun p hp => by rw [s.sampledTo_sv_getElem hk, if_pos hp]
  have hrest : ∀ p : Fin 12, k ≤ p.val → (s.beginPoll.afterHeader.sampledTo k).sv[p] = false :=
    fun p hp => by rw [s.sampledTo_sv_getElem hk, if_neg (by omega)]
  refine ⟨_, _, run_sampledTo hc hr hm hk, s.sampledTo_tr_eq hk, by simp [hes, hk], fun p hp => ?_, hrest, ?_⟩
  · rw [hread p hp, hes, List.getElem?_take_of_lt hp]
    simp
  · rw [State.reportRegs_sampledTo _ s.beginPoll_afterHeader_reportRegs hk, buildReport_eq_reportUpTo hk hread hrest]
    rfl

end Sys2Proof.Machine
end

section
/-! SUPPORT. The edges of one poll's frame, position by position (41_shift_register_poller.md R127). -/

namespace Sys2Proof.Machine

/-! ### CLOCK -/

/-- Edges come in turn: the rising ones exceed the falling ones by what the level has gained. No `Cfg` is among the
events, since no edge is counted across it. -/
theorem risingEdges_add_eq (es : List Event) (hes : Event.cfg ∉ es) (c : Level) :
    risingEdges .clock c es + (bitOfLevel c).toNat =
      fallingEdges .clock c es + (bitOfLevel (clockAfter c es)).toNat := by
  induction es generalizing c with
  | nil => rfl
  | cons e es ih =>
    have hrest : Event.cfg ∉ es := fun h => hes (List.mem_cons_of_mem e h)
    cases e with
    | cfg => exact absurd List.mem_cons_self hes
    | clk v =>
      have ih : edges .clock .low .high v es + _ = edges .clock .high .low v es + _ := ih hrest v
      simp only [risingEdges, fallingEdges, edges, drivenBy, clockAfter]
      cases c <;> cases v <;> simp [bitOfLevel] at ih ⊢ <;> omega
    | _ => exact ih hrest c

theorem fallingEdges_append (c : Level) (es fs : List Event) :
    fallingEdges .clock c (es ++ fs) = fallingEdges .clock c es + fallingEdges .clock (clockAfter c es) fs :=
  edges_clock_append _ _ _ _ _

theorem fallingEdges_pulseEvents (c : Level) : fallingEdges .clock c pulseEvents = 1 := by cases c <;> rfl

theorem fallingEdges_headerEvents (c : Level) : fallingEdges .clock c headerEvents = 0 := by cases c <;> rfl

theorem fallingEdges_closingEvents (c : Level) : fallingEdges .clock c closingEvents = 3 := by cases c <;> rfl

/-- Each position has one falling edge, whatever level CLOCK had. -/
theorem fallingEdges_positionEvents (c : Level) (bs : List Bool) :
    fallingEdges .clock c (positionEvents bs) = bs.length := by
  induction bs generalizing c with
  | nil => rfl
  | cons b bs ih =>
    have ih : edges .clock .high .low .low (positionEvents bs) = bs.length := ih .low
    cases c <;> simp [fallingEdges, positionEvents_cons, edges, drivenBy, ih, Nat.add_comm]

theorem cfg_not_mem_positionEvents (bs : List Bool) : Event.cfg ∉ positionEvents bs := by
  simp [positionEvents, pulseEvents]

theorem cfg_not_mem_frameEvents (b : SampleVector) : Event.cfg ∉ frameEvents b := by
  rw [frameEvents_eq, List.mem_append, List.mem_append, or_assoc]
  exact not_or.2 ⟨by decide, not_or.2 ⟨cfg_not_mem_positionEvents _, by decide⟩⟩

theorem clockAfter_frameEvents (c : Level) (b : SampleVector) : clockAfter c (frameEvents b) = .high := by
  rw [frameEvents_eq, clockAfter_append]; rfl

/-- One falling edge in each of the twelve positions and in each of the three padding pulses (R127). -/
theorem fallingEdges_frameEvents (c : Level) (b : SampleVector) : fallingEdges .clock c (frameEvents b) = 15 := by
  rw [frameEvents_eq, fallingEdges_append, fallingEdges_append, fallingEdges_headerEvents,
    fallingEdges_positionEvents, fallingEdges_closingEvents, Vector.length_toList]

theorem edges_latch_positionEvents (a b c : Level) (bs : List Bool) : edges .latch a b c (positionEvents bs) = 0 := by
  induction bs with
  | nil => rfl
  | cons b bs ih => rw [positionEvents_cons]; simpa [edges, drivenBy] using ih

theorem edges_latch_closingEvents (a b c : Level) : edges .latch a b c closingEvents = 0 := rfl

/-- LATCH has the header's edges alone. -/
theorem edges_latch_frameEvents (a b c : Level) (sv : SampleVector) :
    edges .latch a b c (frameEvents sv) = edges .latch a b c headerEvents := by
  rw [frameEvents_eq, edges_latch_append, edges_latch_append, edges_latch_positionEvents, edges_latch_closingEvents]
  rfl

/-! ### Up to a read -/

/-- The events of a poll after the header and before the read of position `p`. -/
def eventsBeforeRead (b : SampleVector) (p : Nat) : List Event := positionEvents (b.toList.take p) ++ pulseEvents

theorem length_eventsBeforeRead (b : SampleVector) {p : Nat} (hp : p < 12) :
    (eventsBeforeRead b p).length = 4 * p + 3 := by
  rw [eventsBeforeRead, List.length_append, length_positionEvents, List.length_take_of_le (by simp; omega)]
  rfl

/-- A frame, cut at the read of position `p`. -/
theorem frameEvents_eq_read (b : SampleVector) {p : Nat} (hp : p < 12) :
    ∃ after, frameEvents b = headerEvents ++ (eventsBeforeRead b p ++ .rd b[p] :: after) := by
  have hcut : b.toList = b.toList.take p ++ b[p] :: b.toList.drop (p + 1) := by
    have hlen : p < b.toList.length := by simpa using hp
    conv_lhs => rw [← List.take_append_drop p b.toList, List.drop_eq_getElem_cons hlen]
    rfl
  refine ⟨positionEvents (b.toList.drop (p + 1)) ++ closingEvents, ?_⟩
  conv_lhs => rw [frameEvents_eq, hcut, positionEvents_append, positionEvents_cons]
  simp [eventsBeforeRead, pulseEvents]

theorem frameEvents_getElem?_read (b : SampleVector) {p : Nat} (hp : p < 12) :
    (frameEvents b)[7 + 4 * p]? = some (.rd b[p]) := by
  obtain ⟨after, h⟩ := frameEvents_eq_read b hp
  have hlen : 7 + 4 * p = (headerEvents ++ eventsBeforeRead b p).length := by
    rw [List.length_append, length_eventsBeforeRead b hp, show headerEvents.length = 4 from rfl]; omega
  rw [h, ← List.append_assoc, hlen, List.getElem?_append_right (Nat.le_refl _), Nat.sub_self]
  rfl

theorem frameEvents_drop_take (b : SampleVector) {p : Nat} (hp : p < 12) :
    ((frameEvents b).drop 4).take (4 * p + 3) = eventsBeforeRead b p := by
  obtain ⟨after, h⟩ := frameEvents_eq_read b hp
  rw [h, List.drop_left' (show headerEvents.length = 4 from rfl), List.take_left' (length_eventsBeforeRead b hp)]

theorem clockAfter_eventsBeforeRead (c : Level) (b : SampleVector) (p : Nat) :
    clockAfter c (eventsBeforeRead b p) = .low := by
  rw [eventsBeforeRead, clockAfter_append]; rfl

theorem cfg_not_mem_eventsBeforeRead (b : SampleVector) (p : Nat) : Event.cfg ∉ eventsBeforeRead b p :=
  mt List.mem_append.1 (not_or.2 ⟨cfg_not_mem_positionEvents _, by decide⟩)

theorem fallingEdges_eventsBeforeRead (c : Level) (b : SampleVector) {p : Nat} (hp : p < 12) :
    fallingEdges .clock c (eventsBeforeRead b p) = p + 1 := by
  rw [eventsBeforeRead, fallingEdges_append, fallingEdges_positionEvents, fallingEdges_pulseEvents,
    List.length_take_of_le (by simp; omega)]

/-- Settles O25: the falling edges are counted part by part, and the rising ones follow from the levels at both ends. -/
theorem clockEdgesOfOnePoll : Obligations.ClockEdgesOfOnePoll := by
  unfold Obligations.ClockEdgesOfOnePoll
  intro s hc hb hr
  have hfall := fallingEdges_frameEvents s.clock s.frameSamples
  refine ⟨_, frameEvents s.frameSamples, exec_poll_eq hc hb hr, s.afterPoll_tr, hfall, ?rising, fun hl => ?latch,
    fun p hp => ?reads⟩
  case rising =>
    have hrise := risingEdges_add_eq _ (cfg_not_mem_frameEvents s.frameSamples) s.clock
    rw [hfall, clockAfter_frameEvents] at hrise
    cases hclock : s.clock <;> rw [hclock] at hrise <;> simp [bitOfLevel] at hrise ⊢ <;> omega
  case latch =>
    rw [hl, risingEdges, fallingEdges, edges_latch_frameEvents, edges_latch_frameEvents]
    exact ⟨rfl, rfl⟩
  case reads =>
    have hfall := fallingEdges_eventsBeforeRead .high s.frameSamples hp
    have hrise := risingEdges_add_eq _ (cfg_not_mem_eventsBeforeRead s.frameSamples p) .high
    have hlow := clockAfter_eventsBeforeRead .high s.frameSamples p
    rw [hfall, hlow] at hrise
    rw [frameEvents_drop_take _ hp]
    exact ⟨⟨_, frameEvents_getElem?_read _ hp⟩, hfall, Nat.add_right_cancel hrise, hlow⟩

end Sys2Proof.Machine
end

section
/-! SUPPORT. Two blocks that differ on the data lines that are not read run in lockstep (20_memory.md section 5). -/

namespace Sys2Proof.Machine

/-- The same block in another environment: its coming moves, its settled move and the levels it last gave. -/
def State.withEnvironment (s : State) (env : List (List Drive)) (rest : Option (List Drive)) (data : List Level) :
    State :=
  { s with env := env, envRest := rest, data := data }

@[simp] theorem State.withEnvironment_sv (s : State) (env : List (List Drive)) (rest : Option (List Drive))
    (data : List Level) : (s.withEnvironment env rest data).sv = s.sv := rfl

/-- SERIALIZE writes the same bytes in every environment. -/
theorem State.serialized_withEnvironment (s : State) (env : List (List Drive)) (rest : Option (List Drive))
    (data : List Level) : (s.withEnvironment env rest data).serialized.mem = s.serialized.mem := by
  simp only [State.serialized, State.writeMask, State.writeByte, State.withEnvironment]

/-- `u` is `s` in an environment that agrees with its own on the read line. -/
def SameReadLine (s u : State) : Prop :=
  ∃ env rest data, u = s.withEnvironment env rest data ∧
    env.map (fun ds => driveOf ds s.pinmap.dataRead) = s.env.map (fun ds => driveOf ds s.pinmap.dataRead) ∧
    rest.map (fun ds => driveOf ds s.pinmap.dataRead) = s.envRest.map (fun ds => driveOf ds s.pinmap.dataRead)

/-! ### The read -/

theorem State.moveAt_zero (s : State) : s.moveAt 0 = s.env.head?.or s.envRest := by
  rw [State.moveAt, List.head?_eq_getElem?]
  cases s.env[0]? <;> rfl

/-- The level of a line depends, of the move, on what it does with that line. -/
theorem State.comingLevel_congr {s u : State} {k : Nat}
    (hmove : (u.moveAt 0).map (fun ds => driveOf ds k) = (s.moveAt 0).map (fun ds => driveOf ds k))
    (hpull : u.pullupData = s.pullupData) (htr : u.tr = s.tr) (hdraws : u.draws = s.draws) :
    u.comingLevel k = s.comingLevel k := by
  simp only [State.comingLevel, State.levelUnder, State.freeLevel, hpull, htr, hdraws]
  cases hs : s.moveAt 0 with
  | none =>
    have hu : u.moveAt 0 = none := by simpa [hs] using hmove
    simp only [hu]
  | some ds =>
    obtain ⟨ds', hu, hdrive⟩ : ∃ ds', u.moveAt 0 = some ds' ∧ driveOf ds' k = driveOf ds k := by
      simpa [hs] using hmove
    simp only [hu, hdrive]

section
variable {s u : State} (h : SameReadLine s u)
include h

theorem SameReadLine.nextSample_eq (hwf : s.pinmap.wf = true) : u.nextSample = s.nextSample := by
  obtain ⟨env, rest, data, rfl, henv, hrest⟩ := h
  have hlt := dataRead_lt_nData_iff.2 hwf
  rw [State.nextSample_eq (s.withEnvironment env rest data) hlt, State.nextSample_eq s hlt]
  refine congrArg (fun v => decide (v = Level.low)) (State.comingLevel_congr ?_ rfl rfl rfl)
  rw [State.moveAt_zero, State.moveAt_zero, Option.map_or, Option.map_or, ← List.head?_map, ← List.head?_map]
  exact congrArg₂ (fun moves r => (List.head? moves).or r) henv hrest

/-! ### The updates of a poll -/

/-- An update that neither reads nor writes the environment keeps two blocks in lockstep. -/
theorem SameReadLine.map {f : State → State}
    (hf : ∀ env rest data, f (s.withEnvironment env rest data) = (f s).withEnvironment env rest data)
    (hpinmap : (f s).pinmap = s.pinmap) (henv : (f s).env = s.env) (hrest : (f s).envRest = s.envRest) :
    SameReadLine (f s) (f u) := by
  obtain ⟨env, rest, data, rfl, hmoves, hsettled⟩ := h
  exact ⟨env, rest, data, hf _ _ _, by rw [hpinmap, henv, hmoves], by rw [hpinmap, hrest, hsettled]⟩

theorem SameReadLine.envMove : SameReadLine s.envMove u.envMove := by
  obtain ⟨env, rest, data, rfl, hmoves, hsettled⟩ := h
  refine ⟨env.tail, rest, _, rfl, ?_, hsettled⟩
  rw [State.envMove_env, List.map_tail, List.map_tail]
  exact congrArg List.tail hmoves

theorem SameReadLine.emit (e : Event) : SameReadLine (s.emit e) (u.emit e) :=
  h.map (f := fun a => a.emit e) (fun _ _ _ => rfl) rfl rfl rfl

theorem SameReadLine.afterClk (v : Level) : SameReadLine (s.afterClk v) (u.afterClk v) :=
  h.map (f := fun a => a.afterClk v) (fun _ _ _ => rfl) rfl rfl rfl

theorem SameReadLine.afterLat (v : Level) : SameReadLine (s.afterLat v) (u.afterLat v) :=
  h.map (f := fun a => a.afterLat v) (fun _ _ _ => rfl) rfl rfl rfl

theorem SameReadLine.afterWt (n : Nat) : SameReadLine (s.afterWt n) (u.afterWt n) :=
  h.map (f := fun a => a.afterWt n) (fun _ _ _ => rfl) rfl rfl rfl

theorem SameReadLine.afterRst : SameReadLine s.afterRst u.afterRst := h.map (fun _ _ _ => rfl) rfl rfl rfl

theorem SameReadLine.afterEnd : SameReadLine s.afterEnd u.afterEnd := by
  refine h.map (f := State.afterEnd) (fun env rest data => ?_) ?_ ?_ ?_
  · rw [State.afterEnd_eq, s.afterEnd_eq, State.serialized_withEnvironment]; rfl
  · rw [State.afterEnd_eq]
  · rw [State.afterEnd_eq]
  · rw [State.afterEnd_eq]

theorem SameReadLine.effectAt (p : Fin 12) (b : Bool) : SameReadLine (s.effectAt p b) (u.effectAt p b) := by
  refine h.map (f := fun a => a.effectAt p b) (fun _ _ _ => ?_) (by simp) (by simp) (by simp)
  cases b with
  | false => rfl
  | true => rw [State.effectAt_true, State.effectAt_true]; cases positionEffect p <;> rfl

theorem SameReadLine.afterSample (hwf : s.pinmap.wf = true) (p : Fin 12) :
    SameReadLine (s.afterSample p) (u.afterSample p) := by
  unfold State.afterSample State.afterRead
  rw [h.nextSample_eq hwf]
  generalize s.nextSample = b
  have hrecorded := (h.envMove.emit (.rd b)).map (f := fun a => a.recordSample p b) (fun _ _ _ => rfl) rfl rfl rfl
  exact (hrecorded.effectAt p b).map (f := State.advance) (fun _ _ _ => rfl) rfl rfl rfl

/-! ### The blocks of the poll -/

theorem SameReadLine.afterPulse : SameReadLine s.afterPulse u.afterPulse :=
  ((h.afterClk .high).afterWt Config.tPulse).afterClk .low

theorem SameReadLine.sampledTo (hwf : s.pinmap.wf = true) (k : Nat) : SameReadLine (s.sampledTo k) (u.sampledTo k) := by
  induction k with
  | zero => simpa using h
  | succ k ih =>
    rw [State.sampledTo_step, State.sampledTo_step]
    split
    · refine ih.afterPulse.afterSample ?_ _
      rw [State.afterPulse_eq, State.sampledTo_pinmap]
      exact hwf
    · exact ih

theorem SameReadLine.afterPoll (hwf : s.pinmap.wf = true) : SameReadLine s.afterPoll u.afterPoll := by
  have hbegin : SameReadLine s.beginPoll u.beginPoll := h.map (fun _ _ _ => rfl) rfl rfl rfl
  have hheader := (((hbegin.afterClk .high).afterLat .high).afterRst).afterLat .low
  have hpositions := hheader.sampledTo hwf 12
  rw [State.afterPoll, State.afterPositions_eq, State.afterPoll, State.afterPositions_eq]
  exact (((hpositions.afterPulse.afterPulse.afterPulse).afterWt Config.tSettle).afterClk .high).afterEnd

end

/-- Settles O45: the polls of the two blocks run in lockstep, and their samples agree. -/
theorem extraDataLinesHaveNoEffect : Obligations.ExtraDataLinesHaveNoEffect := by
  unfold Obligations.ExtraDataLinesHaveNoEffect
  intro s env' rest' data' hc hb hr hwf henv hrest
  have hsame : SameReadLine s (s.withEnvironment env' rest' data') := ⟨_, _, _, rfl, henv, hrest⟩
  obtain ⟨env, rest, data, hpoll, -, -⟩ := hsame.afterPoll hwf
  have hsamples : (s.withEnvironment env' rest' data').frameSamples = s.frameSamples := by
    rw [← State.afterPoll_sv, hpoll, State.withEnvironment_sv, State.afterPoll_sv]
  have hsettled : rest = rest' := by
    have h := congrArg State.envRest hpoll
    rw [State.afterPoll_eq] at h
    exact h.symm
  have hexec := exec_onCreateReport_eq (s := s.withEnvironment env' rest' data') hc hb hr
  rw [hpoll, hsamples, hsettled] at hexec
  refine ⟨_, _, exec_onCreateReport_eq hc hb hr, hexec, ?_⟩
  generalize s.afterPoll = t
  rfl

end Sys2Proof.Machine
end

section
/-! SUPPORT. SAMPLE of a direction position, and RSTREP (42_report_builder.md sections 1 and 2). -/

namespace Sys2Proof.Machine

section
variable (s : State) {p : Fin 12} {v : BitVec 8}

theorem State.afterSample_x_of_setsX (hp : positionEffect p = .setsX v) :
    (s.afterSample p).x = if s.nextSample then v else s.x := by
  rw [State.afterSample_eq]
  cases s.nextSample with
  | false => rfl
  | true => rw [State.effectAt_true, hp]; rfl

theorem State.afterSample_y_of_setsY (hp : positionEffect p = .setsY v) :
    (s.afterSample p).y = if s.nextSample then v else s.y := by
  rw [State.afterSample_eq]
  cases s.nextSample with
  | false => rfl
  | true => rw [State.effectAt_true, hp]; rfl

/-- Of the report registers, a direction's sample writes the axes alone. -/
theorem State.afterSample_eq_of_direction (hp : ∀ b, positionEffect p ≠ .setsButton b) :
    s.afterSample p = { s with
      sv := s.sv.set p.val s.nextSample p.isLt, x := (s.afterSample p).x, y := (s.afterSample p).y
      tr := s.tr ++ [.rd s.nextSample], upc := s.upc + 1, data := (s.afterSample p).data, env := s.env.tail
      draws := (s.afterSample p).draws } := by
  have hbtn := s.afterSample_btn hp
  rw [State.afterSample_eq] at hbtn
  rw [s.afterSample_eq p, hbtn]

end

/-- The effect of a true sample that overwrites an axis, X or Y, with a number (30_encoding.md R74). -/
def axisEffect (onX : Bool) (n : Int) : Effect := if onX then .setsX (BitVec.ofInt 8 n) else .setsY (BitVec.ofInt 8 n)

/-- The axes after a sample of a direction position, as numbers. -/
theorem State.afterSample_axes_toInt (s : State) {p : Fin 12} {onX : Bool} {n : Int}
    (hp : positionEffect p = axisEffect onX n) (hn : (BitVec.ofInt 8 n).toInt = n) :
    (s.afterSample p).x.toInt = (if s.nextSample = true ∧ onX = true then n else s.x.toInt) ∧
    (s.afterSample p).y.toInt = (if s.nextSample = true ∧ onX = false then n else s.y.toInt) := by
  cases onX with
  | true =>
    have hy := s.afterSample_y (p := p) (by rw [hp]; nofun)
    rw [s.afterSample_x_of_setsX hp, hy, apply_ite BitVec.toInt, hn]
    simp
  | false =>
    have hx := s.afterSample_x (p := p) (by rw [hp]; nofun)
    rw [s.afterSample_y_of_setsY hp, hx, apply_ite BitVec.toInt, hn]
    simp

/-- Settles O16: each row names its position's instruction, axis and value, and the sample is the read's. -/
theorem directionSamplesOverwriteTheirAxis : Obligations.DirectionSamplesOverwriteTheirAxis := by
  unfold Obligations.DirectionSamplesOverwriteTheirAxis
  intro s hc _ row hrow
  have hinstr : row.1 = sampleInstr row.2.1 := by revert row; decide
  have heffect : positionEffect row.2.1 = axisEffect row.2.2.1 row.2.2.2 := by revert row; decide
  have hvalue : (BitVec.ofInt 8 row.2.2.2).toInt = row.2.2.2 := by revert row; decide
  have hdirection : ∀ b, positionEffect row.2.1 ≠ .setsButton b := by
    rw [heffect, axisEffect]; split <;> nofun
  obtain ⟨hx, hy⟩ := s.afterSample_axes_toInt heffect hvalue
  rw [hinstr]
  refine ⟨decodeWord_sample _, s.afterSample row.2.1, s.nextSample, exec_sampleInstr_of_cfg _ hc, ?frame, hx, hy,
    ?line, ?answer⟩
  case frame => exact s.afterSample_eq_of_direction hdirection
  case line => rw [State.afterSample_data]; exact State.nextSample_eq_true_iff_data
  case answer => exact fun hwf ds v => State.nextSample_eq_true_iff_answer hwf

theorem exec_rstrep (s : State) : exec .rstrep s = .next s.afterRst := rfl

/-- Settles O28: the report registers and SV are cleared in every state. -/
theorem rstrepMakesTheReportNeutral : Obligations.RstrepMakesTheReportNeutral := by
  unfold Obligations.RstrepMakesTheReportNeutral
  exact fun s _ => exec_rstrep s

end Sys2Proof.Machine
end

section
/-! SUPPORT. BUILD's report as numbers and bits, and the reports it reaches (42_report_builder.md sections 3 and 5). -/

namespace Sys2Proof.Machine

section
variable (sv : SampleVector)

theorem exec_build (s : State) : exec (.build sv) s = .next (s.giveResult (.report (buildReport sv))) := rfl

theorem buildReport_x_toInt : (buildReport sv).x.toInt = if sv[7] then (127 : Int) else if sv[6] then -127 else 0 := by
  rw [buildReport, buildWith_x, apply_ite BitVec.toInt, apply_ite BitVec.toInt]; rfl

theorem buildReport_y_toInt : (buildReport sv).y.toInt = if sv[5] then (127 : Int) else if sv[4] then -127 else 0 := by
  rw [buildReport, buildWith_y, apply_ite BitVec.toInt, apply_ite BitVec.toInt]; rfl

/-- BUILD leaves the bits that no button owns at 0 (10_state.md R42). -/
theorem buildReport_maskLegal : maskLegal (buildReport sv).btn := by
  intro j hj
  rw [Bool.eq_false_iff, Ne, buildReport_btn_iff]
  rintro ⟨b, -, hb⟩
  exact hj b hb

end

/-- Settles O29: BUILD's report, field by field. -/
theorem buildIsTheClosedFormOfTheMapping : Obligations.BuildIsTheClosedFormOfTheMapping := by
  unfold Obligations.BuildIsTheClosedFormOfTheMapping
  exact fun sv s => ⟨buildReport sv, exec_build sv s, buildReport_x_toInt sv, buildReport_y_toInt sv,
    buildReport_btn_buttonBit sv, buildReport_maskLegal sv⟩

/-! ### The tie-break -/

/-- The value of an axis for its two samples: the later one, `high`, wins (42_report_builder.md R164). -/
theorem axis_table {low high : Bool} {n : Int} (h : n = if high then 127 else if low then -127 else 0) :
    (low = false → high = false → n = 0) ∧ (low = true → high = false → n = -127) ∧
    (low = false → high = true → n = 127) ∧ (low = true → high = true → n = 127) := by
  subst h; revert low high; decide

/-- Settles O30: the table of each axis, read off the closed form. -/
theorem laterDirectionWins : Obligations.LaterDirectionWins := by
  unfold Obligations.LaterDirectionWins
  intro sv s
  obtain ⟨hy00, hy10, hy01, hy11⟩ := axis_table (buildReport_y_toInt sv)
  exact ⟨buildReport sv, exec_build sv s, hy00, hy10, hy01, hy11, axis_table (buildReport_x_toInt sv)⟩

/-! ### The image of BUILD -/

/-- The samples that make a report: a button's is its bit, a direction's is whether its axis has its value. -/
def samplesOf (r : Report) : SampleVector := Vector.ofFn fun p =>
  match positionEffect p with
  | .setsButton b => r.btn.getLsbD (Config.buttonBit b).val
  | .setsX v => decide (r.x = v)
  | .setsY v => decide (r.y = v)

theorem samplesOf_buttonPosition (r : Report) (b : Button) :
    (samplesOf r)[buttonPosition b] = r.btn.getLsbD (Config.buttonBit b).val := by
  cases b <;> simp [samplesOf, buttonPosition, positionEffect]

theorem axis_toInt_iff {v : BitVec 8} :
    (v.toInt = -127 ∨ v.toInt = 0 ∨ v.toInt = 127) ↔ (v = axisLow ∨ v = 0 ∨ v = axisHigh) := by
  simp only [← BitVec.toInt_inj]; rfl

theorem axis_eq_ite {v : BitVec 8} (h : v = axisLow ∨ v = 0 ∨ v = axisHigh) :
    (if decide (v = axisHigh) then axisHigh else if decide (v = axisLow) then axisLow else 0) = v := by
  obtain rfl | rfl | rfl := h <;> rfl

theorem report_eq {r r' : Report} (hx : r.x = r'.x) (hy : r.y = r'.y) (hbtn : r.btn = r'.btn) : r = r' := by
  cases r; cases r'; cases hx; cases hy; cases hbtn; rfl

theorem buildReport_samplesOf {r : Report} (hx : r.x = axisLow ∨ r.x = 0 ∨ r.x = axisHigh)
    (hy : r.y = axisLow ∨ r.y = 0 ∨ r.y = axisHigh) (hmask : maskLegal r.btn) : buildReport (samplesOf r) = r := by
  have hx' : (buildReport (samplesOf r)).x = r.x := by
    rw [buildReport, buildWith_x]; simpa [samplesOf, positionEffect] using axis_eq_ite hx
  have hy' : (buildReport (samplesOf r)).y = r.y := by
    rw [buildReport, buildWith_y]; simpa [samplesOf, positionEffect] using axis_eq_ite hy
  have hbtn : (buildReport (samplesOf r)).btn = r.btn := by
    refine BitVec.eq_of_getLsbD_eq fun j hj => ?_
    by_cases howned : ∃ b, Config.buttonBit b = ⟨j, hj⟩
    · obtain ⟨b, hb⟩ := howned
      have hbit := buildReport_btn_buttonBit (samplesOf r) b
      rwa [samplesOf_buttonPosition, hb] at hbit
    · have hfree := not_exists.1 howned
      exact (buildReport_maskLegal _ ⟨j, hj⟩ hfree).trans (hmask ⟨j, hj⟩ hfree).symm
  exact report_eq hx' hy' hbtn

/-- An axis of a built report has one of the three values. -/
theorem axis_cases (low high : Bool) :
    (if high then (127 : Int) else if low then -127 else 0) = -127 ∨
    (if high then (127 : Int) else if low then -127 else 0) = 0 ∨
    (if high then (127 : Int) else if low then -127 else 0) = 127 := by revert low high; decide

/-- Settles O32: a built report is legal, and a legal report is built from its own samples. -/
theorem imageOfBuildIsTheLegalReports : Obligations.ImageOfBuildIsTheLegalReports := by
  unfold Obligations.ImageOfBuildIsTheLegalReports
  refine fun r => ⟨?_, fun ⟨hx, hy, hmask⟩ =>
    ⟨samplesOf r, buildReport_samplesOf (axis_toInt_iff.1 hx) (axis_toInt_iff.1 hy) hmask⟩⟩
  rintro ⟨sv, rfl⟩
  rw [buildReport_x_toInt, buildReport_y_toInt]
  exact ⟨axis_cases _ _, axis_cases _ _, buildReport_maskLegal sv⟩

/-! ### The default bits -/

/-- Settles O33: bit by bit, since under the default bits a button's bit is its position. -/
theorem defaultBitsMaskThePackedVector : Obligations.DefaultBitsMaskThePackedVector := by
  unfold Obligations.DefaultBitsMaskThePackedVector
  intro sv
  have hbits : ∀ k : Fin 16, (buildWith Config.defaultBit sv).btn.getLsbD k.val =
      ((packed sv).zeroExtend 16 &&& 0x0F0F#16).getLsbD k.val := by
    intro k
    rw [buildWith_btn]
    fin_cases k <;> simp [Config.defaultBit, packed]
  exact BitVec.eq_of_getLsbD_eq fun j hj => hbits ⟨j, hj⟩

end Sys2Proof.Machine
end

section
/-! SUPPORT. The bytes END and SERIALIZE leave in the buffer (42_report_builder.md R167, 30_encoding.md section 3). -/

namespace Sys2Proof.Machine

theorem exec_endPoll (s : State) : exec .endPoll s = .next s.afterEnd := rfl

theorem exec_serialize (s : State) : exec .serialize s = .next s.serialized := rfl

theorem State.readByte_afterEnd_outside (s : State) {k : Nat} (hk : 4 ≤ k) : s.afterEnd.readByte k = s.readByte k :=
  (s.readByte_afterEnd k).trans (s.serialized_read_outside hk)

/-- The buffer as one number, its last byte on top (10_state.md R44). -/
theorem State.reportWord_of_reportBytes {s : State} {b0 b1 b2 b3 : Byte}
    (h : s.reportBytes = [some b0, some b1, some b2, some b3]) : s.reportWord = some ((b3 ++ b2) ++ (b1 ++ b0)) := by
  simp only [State.reportBytes, List.cons.injEq, and_true] at h
  obtain ⟨h0, h1, h2, h3⟩ := h
  simp only [State.reportWord, h0, h1, h2, h3]

theorem extractLsb'_append_bytes (v : BitVec 16) : v.extractLsb' 8 8 ++ v.extractLsb' 0 8 = v :=
  (BitVec.extractLsb'_append_extractLsb'_eq_extractLsb' (start₂ := 8) (start₁ := 0) rfl).trans
    BitVec.extractLsb'_eq_self

theorem State.reportWord_afterEnd (s : State) : s.afterEnd.reportWord = some (s.btn ++ (s.y ++ s.x)) := by
  rw [State.reportWord_of_reportBytes s.reportBytes_afterEnd]
  exact congrArg (fun v : BitVec 16 => some (v ++ (s.y ++ s.x))) (extractLsb'_append_bytes s.btn)

/-- Settles O17: END's answer, and the buffer it leaves byte by byte and as one number. -/
theorem endHandsTheReportOver : Obligations.EndHandsTheReportOver := by
  unfold Obligations.EndHandsTheReportOver
  exact fun s => ⟨s.afterEnd, exec_endPoll s, by rw [State.afterEnd_eq], s.reportBytes_afterEnd,
    s.reportWord_afterEnd, fun _ => s.readByte_afterEnd_outside⟩

/-- Settles O34: SERIALIZE's answer, and the buffer it leaves byte by byte. -/
theorem serializeWritesTheWireFormat : Obligations.SerializeWritesTheWireFormat := by
  unfold Obligations.SerializeWritesTheWireFormat
  exact fun s => ⟨s.serialized, exec_serialize s, s.serialized_eq, s.serialized_reportBytes,
    fun _ => s.serialized_read_outside⟩

end Sys2Proof.Machine
end

section
/-! SUPPORT. The pins: what the outputs show, what one cycle performs for its inputs, and cycles while a WAIT passes
(10_state.md section 10, log 26). -/

namespace Sys2Proof.Machine

/-! ### The output pins -/

section
variable {s : State}

theorem State.outputs_report_of_valid (hb : s.busy = false) (hend : .endPoll ∈ s.tr) :
    s.outputs.report = s.reportWord := by
  simp [State.outputs, State.reportValid, hb, hend]

theorem State.outputs_report_of_not_valid (h : s.busy = true ∨ .endPoll ∉ s.tr) : s.outputs.report = none := by
  have hvalid : s.reportValid = false := by
    rcases h with hb | hend
    · simp [State.reportValid, hb]
    · simp [State.reportValid, hend]
  simp [State.outputs, hvalid]

/-- END makes `report` valid: the report registers, BTN on top. -/
theorem State.outputs_report_afterEnd : s.afterEnd.outputs.report = some (s.btn ++ (s.y ++ s.x)) := by
  rw [State.outputs_report_of_valid, State.reportWord_afterEnd]
  · rw [State.afterEnd_eq]
  · rw [State.afterEnd_eq]; simp

end

/-- Settles O49: `report` is the buffer's word where it is valid, which END makes it and the start of a poll ends. -/
theorem portOutputsShowTheBlock : Obligations.PortOutputsShowTheBlock := by
  unfold Obligations.PortOutputsShowTheBlock
  refine ⟨fun s => ⟨rfl, rfl, rfl⟩, fun s => State.outputs_report_of_not_valid,
    fun s b0 b1 b2 b3 hb hend hbytes => ?word, fun s => ⟨_, exec_endPoll s, State.outputs_report_afterEnd⟩,
    fun s => State.outputs_report_of_not_valid (.inl rfl)⟩
  case word => rw [State.outputs_report_of_valid hb hend, State.reportWord_of_reportBytes hbytes]

/-! ### One cycle of the input pins -/

theorem andThen_next_right (o : Out) : andThen o .next = o := by cases o <;> rfl

theorem startPoll_of_not_cfg {s : State} (hc : s.cfg = false) : startPoll s = .refused .notConfigured := by
  rw [startPoll, cfgTest_of_not_cfg hc, guarded_some]

theorem startPoll_of_busy {s : State} (hc : s.cfg = true) (hb : s.busy = true) : startPoll s = .refused .busy :=
  guarded_cfg_busy_of_busy _ hc hb

section
variable (m : PinMap) (vs : List Level) (tick : Bool) (s : State)

/-! What the inputs ask for (10_state.md R44). -/

theorem portOperation_configureGo (waiting : Bool) :
    portOperation m ⟨vs, true, false, tick⟩ waiting s = exec (.configure m) s := andThen_next_right _

theorem portOperation_pollGo (waiting : Bool) :
    portOperation m ⟨vs, false, true, tick⟩ waiting s = startPoll s := rfl

theorem portOperation_quiet_of_busy (hb : s.busy = true) :
    portOperation m ⟨vs, false, false, tick⟩ false s = sequencerStep s := by
  simp [portOperation, hb]

theorem portOperation_quiet_of_idle (waiting : Bool) (hb : s.busy = false) :
    portOperation m ⟨vs, false, false, tick⟩ waiting s = .next s := by
  simp [portOperation, hb]

end

section
variable {m : PinMap} {i : PortInputs} {s : State} (hm : s.refused = false)
include hm

/-- With no WAIT passing a cycle performs its operation, and what this adds to `t` is still to pass. -/
theorem PortBlock.cycle_of_next {u : State} (h : portOperation m i false (s.withDataIn i.dataIn) = .next u) :
    PortBlock.cycle m i ⟨s, 0⟩ = .next ⟨u, u.t - s.t⟩ := by
  simp [PortBlock.cycle, hm, h, ticksAfter]

/-- An operation that adds nothing to `t` leaves no time to pass. -/
theorem PortBlock.cycle_of_next_of_t_eq {u : State} (h : portOperation m i false (s.withDataIn i.dataIn) = .next u)
    (ht : u.t = s.t) : PortBlock.cycle m i ⟨s, 0⟩ = .next ⟨u, 0⟩ := by
  rw [PortBlock.cycle_of_next hm h, ht, Nat.sub_self]

theorem PortBlock.cycle_of_refused {r : Refusal}
    (h : portOperation m i false (s.withDataIn i.dataIn) = .refused r) :
    PortBlock.cycle m i ⟨s, 0⟩ = .refused r := by
  simp [PortBlock.cycle, hm, h]

end

/-- Settles O50: each cycle's operation, and the time it adds. -/
theorem portInputsDriveTheOperations : Obligations.PortInputsDriveTheOperations := by
  unfold Obligations.PortInputsDriveTheOperations
  intro m vs tick s hm
  refine ⟨fun u hu => ?configure, fun hc => ?reconfigure, fun hc hb => ?poll, fun hc => ?pollNotConfigured,
    fun hc hb => ?pollBusy, fun u hb hu => ?word, fun hb => ?idle⟩
  case configure =>
    obtain ⟨-, rfl⟩ := exec_answers hu
    exact PortBlock.cycle_of_next_of_t_eq hm ((portOperation_configureGo ..).trans hu) rfl
  case reconfigure =>
    exact PortBlock.cycle_of_refused hm ((portOperation_configureGo ..).trans (exec_configure_of_cfg m hc))
  case poll =>
    exact PortBlock.cycle_of_next_of_t_eq hm
      ((portOperation_pollGo ..).trans (startPoll_eq_next.2 ⟨hc, hb, rfl⟩)) rfl
  case pollNotConfigured =>
    exact PortBlock.cycle_of_refused hm ((portOperation_pollGo ..).trans (startPoll_of_not_cfg hc))
  case pollBusy => exact PortBlock.cycle_of_refused hm ((portOperation_pollGo ..).trans (startPoll_of_busy hc hb))
  case word =>
    rw [step_of_busy (s := s.withDataIn vs) hm hb] at hu
    exact PortBlock.cycle_of_next hm ((portOperation_quiet_of_busy m vs tick (s.withDataIn vs) hb).trans hu)
  case idle => exact PortBlock.cycle_of_next_of_t_eq hm (portOperation_quiet_of_idle _ _ _ _ _ hb) rfl

/-! ### Cycles while a WAIT passes -/

/-- While the ticks do not make the count whole, quiet cycles count them off and perform nothing. -/
theorem PortBlock.run_waiting (m : PinMap) (ins : List PortInputs) {p : PortBlock} (hm : p.state.refused = false)
    (hq : ∀ i ∈ ins, i.quiet = true) (ht : ins.countP (·.unitTick) < p.ticks) :
    ∃ q, PortBlock.run m ins p = .next q ∧ q.ticks = p.ticks - ins.countP (·.unitTick) ∧
      q.state = { p.state with data := q.state.data, env := q.state.env } := by
  induction ins generalizing p with
  | nil => exact ⟨p, rfl, rfl, rfl⟩
  | cons i ins ih =>
    obtain ⟨hqi, hqs⟩ := List.forall_mem_cons.1 hq
    have hcount : (i :: ins).countP (·.unitTick) = ins.countP (·.unitTick) + i.unitTick.toNat := by
      rw [List.countP_cons]; cases i.unitTick <;> rfl
    rw [hcount] at ht ⊢
    have hcycle := PortBlock.cycle_waiting (m := m) hm hqi (by omega)
    obtain ⟨q, hrun, hticks, hstate⟩ :=
      ih (p := ⟨p.state.withDataIn i.dataIn, p.ticks - i.unitTick.toNat⟩) hm hqs (by simp only; omega)
    refine ⟨q, ?_, by simp only at hticks; omega, hstate⟩
    simp only [PortBlock.run, hcycle, hrun]

/-- Settles O51: the quiet cycles before the last tick leave one time-unit to pass, which that tick ends. -/
theorem waitConsumesItsUnitTicks : Obligations.WaitConsumesItsUnitTicks := by
  unfold Obligations.WaitConsumesItsUnitTicks
  refine fun m ins p hm hq => ⟨PortBlock.run_waiting m ins hm hq, fun i hqi hti hcount => ?last⟩
  case last =>
    obtain ⟨q, hrun, hticks, hstate⟩ := PortBlock.run_waiting m ins hm hq (by omega)
    have hmq : q.state.refused = false := by rw [hstate]; exact hm
    have hcycle := PortBlock.cycle_waiting (m := m) hmq hqi (by omega)
    refine ⟨⟨q.state.withDataIn i.dataIn, 0⟩, ?_, rfl, ?_⟩
    · rw [PortBlock.run_append _ hrun]
      simp only [PortBlock.run, hcycle, hti, Bool.toNat_true, Host.Outcome.next.injEq, PortBlock.mk.injEq, true_and]
      omega
    · rw [hstate]; rfl

end Sys2Proof.Machine
end

section
/-! SUPPORT. Power-on, which micro-operation or call a step performs, and CONFIGURE, WAIT and TOGGLE in their settings
(10_state.md section 8, 40_gpio_line_driver.md sections 1 and 2, 41_shift_register_poller.md section 1). -/

namespace Sys2Proof.Machine

/-- Settles O1: field by field. -/
theorem powerOnValuesOfTheSpec : Obligations.PowerOnValuesOfTheSpec := by
  unfold Obligations.PowerOnValuesOfTheSpec
  exact ⟨rfl, rfl, rfl, rfl, rfl, rfl⟩

/-! ### The step -/

section
variable {s : State} (hm : s.refused = false)
include hm

theorem step_of_fetch {i : Instr} (hb : s.busy = true) (h : s.fetch = .instr i) : step s = exec i s := by
  rw [step_of_busy hm hb, sequencerStep_eq_exec h]

theorem step_of_fetch_reserved {w : Byte} (hb : s.busy = true) (h : s.fetch = .reserved w) :
    step s = .refused .illegalMicroOp := by
  rw [step_of_busy hm hb, sequencerStep, h]

theorem step_of_call {i : Instr} {rest : List Instr} (hb : s.busy = false) (h : s.calls = i :: rest) :
    step s = if admitted i then exec i s.popCall else .refused .notACall := by
  simp [step, hm, hb, h]

theorem step_of_no_call (hb : s.busy = false) (h : s.calls = []) : step s = .next s := by
  simp [step, hm, hb, h]

end

/-- Settles O2: a busy block's step is the sequencer's. -/
theorem stepRunsTheFetchedMicroOp : Obligations.StepRunsTheFetchedMicroOp := by
  unfold Obligations.StepRunsTheFetchedMicroOp
  exact fun s hm hb => ⟨fun _ => step_of_fetch hm hb, fun _ => step_of_fetch_reserved hm hb⟩

/-- Settles O3: by the head of the host's list. -/
theorem stepRunsTheNextHostCall : Obligations.StepRunsTheNextHostCall := by
  unfold Obligations.StepRunsTheNextHostCall
  refine fun s hm hb => ⟨fun i rest h hi => ?admitted, fun i rest h hi => ?notACall, step_of_no_call hm hb⟩
  case admitted => rw [step_of_call hm hb h, if_pos hi, State.popCall, h]; rfl
  case notACall => rw [step_of_call hm hb h, hi]; rfl

/-! ### CONFIGURE -/

/-- Settles O9: CONFIGURE's answer in an unconfigured and in a configured state. -/
theorem configureInitialisesTheLinesOnce : Obligations.ConfigureInitialisesTheLinesOnce := by
  unfold Obligations.ConfigureInitialisesTheLinesOnce
  exact fun m s => ⟨fun hc => ⟨_, exec_configure_of_not_cfg m hc, by simp, rfl⟩, exec_configure_of_cfg m⟩

section
variable {s : State}

/-! ### WAIT -/

theorem exec_wait_micro (n : Nat) : exec (.wait .micro n) s = .next (s.afterWt n) := rfl

theorem exec_wait_direct_of_idle (n : Nat) (hc : s.cfg = true) (hb : s.busy = false) :
    exec (.wait .direct n) s = .next ((s.addTime n).emit (.wt n)) :=
  guarded_cfg_busy_of_admitted (c := .direct) _ hc (busyTest_of_idle hb)

theorem exec_wait_direct_of_not_cfg (n : Nat) (hc : s.cfg = false) :
    exec (.wait .direct n) s = .refused .notConfigured := by
  simp [exec, execWait, cfgTest_of_not_cfg hc]

theorem exec_wait_direct_of_busy (n : Nat) (hc : s.cfg = true) (hb : s.busy = true) :
    exec (.wait .direct n) s = .refused .busy :=
  guarded_cfg_busy_of_busy _ hc hb

theorem encode_wait_micro {n : Nat} (hn : n < 16) : encode (.wait .micro n) = some (0x30#8 ||| BitVec.ofNat 8 n) := by
  revert n; decide

end

/-- Settles O12: WAIT's answer in each setting, configured and not, and its word. -/
theorem waitAddsItsCountToTime : Obligations.WaitAddsItsCountToTime := by
  unfold Obligations.WaitAddsItsCountToTime
  exact fun s n => ⟨fun _ => exec_wait_micro n, exec_wait_direct_of_idle n, exec_wait_direct_of_not_cfg n,
    exec_wait_direct_of_busy n, encode_wait_micro⟩

section
variable {s : State}

/-! ### TOGGLE, through its parts -/

theorem exec_toggle_eq (c : Setting) : exec (.toggle c) s =
    andThen (exec (.setclk c .high) s) fun s1 =>
    andThen (exec (.wait c Config.tPulse) s1) fun s2 => exec (.setclk c .low) s2 := rfl

theorem exec_toggle_direct_of_idle (hc : s.cfg = true) (hb : s.busy = false) :
    exec (.toggle .direct) s = .next { s with
      clock := .low, t := s.t + Config.tPulse, tr := s.tr ++ pulseEvents } := by
  refine andThen_eq_next.2 ⟨_, exec_setclk_of_cfg .direct _ hc hb, andThen_eq_next.2 ⟨_,
    exec_wait_direct_of_idle _ hc hb, (exec_setclk_of_cfg .direct .low ?cfg ?idle).trans ?_⟩⟩
  case cfg => exact hc
  case idle => exact hb
  simp [State.driveClock, State.emit, State.addTime, pulseEvents]

theorem exec_toggle_micro_of_cfg (hc : s.cfg = true) : exec (.toggle .micro) s = .next s.afterPulse :=
  andThen_eq_next.2 ⟨_, exec_setclk_micro_of_cfg _ hc, andThen_eq_next.2 ⟨_, exec_wait_micro _,
    exec_setclk_micro_of_cfg _ hc⟩⟩

/-- TOGGLE is refused as its first SETCLK is. -/
theorem exec_toggle_of_refused {c : Setting} {r : Refusal} (h : exec (.setclk c .high) s = .refused r) :
    exec (.toggle c) s = .refused r := by
  rw [exec_toggle_eq, h, andThen_refused]

end

/-- Settles O14: the three parts in turn, in each setting, and the words they are. -/
theorem toggleIsOnePulse : Obligations.ToggleIsOnePulse := by
  unfold Obligations.ToggleIsOnePulse
  refine fun s => ⟨exec_toggle_direct_of_idle, fun hc _ => ?micro,
    fun hc c => exec_toggle_of_refused (exec_setclk_of_not_cfg c _ hc),
    fun hc hb => exec_toggle_of_refused (exec_setclk_direct_of_busy _ hc hb), rfl⟩
  case micro => rw [exec_toggle_micro_of_cfg hc, State.afterPulse_eq]; rfl

/-! ### The refusals -/

section
variable {s : State}

theorem exec_poll_of_refused {r : Refusal} (h : runPoll s = .refused r) : exec .poll s = .refused r := by
  rw [exec, execPoll, h, andThen_refused]

theorem exec_sampleInstr_of_not_cfg (p : Fin 12) (hc : s.cfg = false) :
    exec (sampleInstr p) s = .refused .notConfigured := by
  rw [exec_sampleInstr, sampleAt, cfgTest_of_not_cfg hc, guarded_some]

end

/-- Settles O38: each operation's first test is that of `cfg`, a poll's, a TOGGLE's and a SAMPLE's among them. -/
theorem unconfiguredBlockRefuses : Obligations.UnconfiguredBlockRefuses := by
  unfold Obligations.UnconfiguredBlockRefuses
  refine fun s hc => ⟨fun c v => exec_setclk_of_not_cfg c v hc, fun c v => exec_setlat_of_not_cfg c v hc,
    fun c => exec_toggle_of_refused (exec_setclk_of_not_cfg c _ hc), fun n => exec_wait_direct_of_not_cfg n hc,
    exec_readdata_of_not_cfg hc, exec_poll_of_refused (runPoll_of_not_cfg hc),
    exec_onCreateReport_of_refused (runPoll_of_not_cfg hc), fun i hi => ?sample⟩
  case sample =>
    obtain ⟨p, rfl⟩ : ∃ p, i = sampleInstr p := by revert i; decide
    exact exec_sampleInstr_of_not_cfg p hc

/-- Settles O39: each operation tests `busy` once `cfg` is true, a poll and a TOGGLE among them. -/
theorem busyBlockRefusesASecondCaller : Obligations.BusyBlockRefusesASecondCaller := by
  unfold Obligations.BusyBlockRefusesASecondCaller
  exact fun s hc hb => ⟨fun v => exec_setclk_direct_of_busy v hc hb, fun v => exec_setlat_direct_of_busy v hc hb,
    fun n => exec_wait_direct_of_busy n hc hb, exec_toggle_of_refused (exec_setclk_direct_of_busy _ hc hb),
    exec_readdata_of_busy hc hb, exec_poll_of_refused (runPoll_of_busy hc hb),
    exec_onCreateReport_of_refused (runPoll_of_busy hc hb)⟩

end Sys2Proof.Machine
end
